-- ==== Sys2Proof/Word.lean ====
section
/-! DEFINITION. The byte the link carries. -/

namespace Sys2Proof

/-- One byte on the line link (spec/11, section 11.1). -/
abbrev Byte := BitVec 8

end Sys2Proof
end

