-- ==== Sys2Proof/Config.lean ====
section
/-! DEFINITION. What the manual fixes for the part (capacities, ranges, identity) and the free values it leaves open. -/

namespace Sys2Proof.Config

/-- Capacities of the part (spec/10 R200). -/
def programSlots : Nat := 16
/-- Steps a program may have (spec/01 R3). -/
def stepsPerProgram : Nat := 40
/-- Live lift records (spec/02 R20). -/
def liftRecords : Nat := 8
/-- Live pile records (spec/03 R48). -/
def pileRecords : Nat := 3
/-- Order tags (spec/05 R101). -/
def orderTags : Nat := 32
/-- Requests in the Agent's queue (spec/10 R195). -/
def agentQueue : Nat := 4
/-- Frames in an own-frame queue (spec/08 R168). -/
def ownQueue : Nat := 24
/-- Frames in a forwarded queue (spec/08 R168). -/
def fwdQueue : Nat := 16
/-- Own frames sent in a row while forwarded frames wait (spec/08 R181). -/
def burstLimit : Nat := 4
/-- Bad-check frames in a row that take a port DOWN (spec/09 R189). -/
def badRunLimit : Nat := 16
/-- Longest payload of a frame (spec/11). -/
def maxPayload : Nat := 48

/-- Largest value of a counter that names no other (spec/00, Counters). -/
def counterMax : Nat := 65535
/-- Largest fault count (spec/05 R117) and ATTENTION count (spec/10 R203). -/
def smallCounterMax : Nat := 255
/-- Largest line time (spec/05 R117). -/
def lineTimeMax : Nat := 4294967295

/-- The gauge range in units of 0.01 mm (spec/00, Lengths). -/
def gaugeMin : Nat := 2500
/-- The gauge range's upper end, which is also the home stop (spec/00, spec/04 R71). -/
def gaugeMax : Nat := 165000
/-- Retry delay of a port in DOWN, ms (spec/09 R185). -/
def retryDelay : Nat := 100
/-- Where a spacing record's elapsed time stops counting: beyond the largest interval, 5,000 ms (spec/05 R121; log 26). -/
def spacingMax : Nat := 5001
/-- Largest notice hold-off (spec/10 R203). -/
def holdOffMax : Nat := 1000
/-- Where the time since the last NOTICE stops counting: beyond the largest hold-off (log 26). -/
def sinceMax : Nat := 1001

/-- The link address of the part (spec/00, Link addresses). -/
def ownAddress : Nat := 63
/-- The broadcast address (spec/00, Link addresses). -/
def broadcast : Nat := 0

/-- Defaults of the twenty-one Timing Table entries, entry 0 first (spec/05 R121). -/
def timingDefaults : Vector Nat 21 :=
  #v[40, 20, 30, 0, 60, 50, 30, 350, 600, 8000, 3000, 4000, 6000, 20000, 30000, 15000, 60000, 30000, 15000, 60000, 2000]

/-- The range of a Timing Table entry, lower and upper end (spec/05 R121). -/
def timingRange (entry : Nat) : Nat × Nat :=
  if entry ≤ 8 then (0, 5000) else if entry ≤ 19 then (100, 120000) else (100, 10000)

/-- FREE VALUE. What picks the refresh code drawn by draw number n (spec/07 R157 says only that it differs from the code it replaces); log 4. -/
opaque refreshDraw : Nat → BitVec 12
/-- FREE VALUE. What picks the challenge drawn by draw number n (spec/07 R160 says only that it differs from the last one returned); log 5. -/
opaque challengeDraw : Nat → BitVec 12
/-- FREE VALUE. The destination byte of a HELLO the part sends (the spec gives none); log 6. -/
opaque helloDestination : Byte
/-- FREE VALUE. The source byte of a HELLO the part sends (the spec gives none); log 6. -/
opaque helloSource : Byte
/-- FREE VALUE. The request kind a BLOCKED answer echoes (a MANUAL frame has none); log 6. -/
opaque blockedKind : Byte
/-- FREE VALUE. The entry an answer to Set Forward shows for an address above 63, which has none; log 6. -/
opaque missingEntry : Nat → Byte
/-- FREE VALUE. What picks the reason, by its code, of the n-th Idle that answers a CALL from a station that cannot be reached (spec/08 R178 gives none); log 39. -/
opaque strandedReason : Nat → Fin 5

end Sys2Proof.Config
end

