-- ==== Sys2Proof/Syntax.lean ====
section
/-! DEFINITION. The commands: one constructor for each row of spec/opcode_table.json, with its operands. -/

namespace Sys2Proof

/-- The two link ports (spec/00, Segments). -/
inductive Port
  | west | east
  deriving DecidableEq, Repr

/-- The other port. -/
def Port.other : Port → Port
  | .west => .east
  | .east => .west

/-- A line frame without its check, which the rest determines (spec/11, section 11.1).
The address bytes are kept whole, so that a forwarded frame is placed unchanged (spec/08 R173); R209 reads their low six bits. -/
structure Frame where
  dst : Byte
  src : Byte
  kind : Byte
  payload : List Byte
  deriving DecidableEq, Repr

/-- What a port has received to its end: a frame whose check failed or whose length is malformed, or a good one (spec/08 R169, spec/11 R209). -/
inductive Reception
  | bad
  | good (f : Frame)
  deriving DecidableEq, Repr

/-- The nine spacing entries of the Timing Table, entries 0 to 8 (spec/05 R121). -/
inductive SpacingEntry
  | s0 | s1 | s2 | s3 | s4 | s5 | s6 | s7s | s7l
  deriving DecidableEq, Repr

/-- The commands (spec/opcode_table.json, one constructor a row). -/
inductive Instr
  /-- POWER_ON: R18, R46, R68, R99, R124, R140, R166, R183, R194, R195, R207. -/
  | powerOn
  /-- RSTN_PULSE: the same effect as power-on. -/
  | rstnPulse
  /-- ESTOP_ASSERTED: R151. -/
  | estopAsserted
  /-- ESTOP_CLEARED: R151. -/
  | estopCleared
  /-- CURTAIN_ASSERTED: R152. -/
  | curtainAsserted
  /-- CURTAIN_CLEARED: R88, R152. -/
  | curtainCleared
  /-- DOOR_ASSERTED: R153. -/
  | doorAsserted
  /-- DOOR_CLEARED: R153. -/
  | doorCleared
  /-- PRESS_OK_RISE: R136. -/
  | pressOkRise
  /-- PRESS_OK_FALL: R136. -/
  | pressOkFall
  /-- REQUEST_RECEIVED: a REQUEST frame with this payload arrives at the port (R170, R171). -/
  | requestReceived (port : Port) (dst src : Byte) (payload : List Byte)
  /-- REPORT_DONE: a DONE report, its tag, echoed kind and result data (R106, R107). -/
  | reportDone (port : Port) (dst src tag kind : Byte) (data : List Byte)
  /-- REPORT_FAULT: a FAULT report, its tag, echoed kind and fault kind (R106, R108). -/
  | reportFault (port : Port) (dst src tag kind fault : Byte)
  /-- REPORT_ABANDONED: an ABANDONED report, its tag and echoed kind (R106, R109). -/
  | reportAbandoned (port : Port) (dst src tag kind : Byte)
  /-- READY event (R172). -/
  | ready (port : Port) (dst src : Byte)
  /-- CALL event (R54, R59, R172). -/
  | call (port : Port) (dst src : Byte)
  /-- ATTENTION event with its cause code (R172, R203). -/
  | attention (port : Port) (dst src cause : Byte)
  /-- MANUAL_RECEIVED (R174). -/
  | manualReceived (port : Port) (dst src : Byte) (payload : List Byte)
  /-- DATA_RECEIVED (R170, R173). -/
  | dataReceived (port : Port) (dst src : Byte) (payload : List Byte)
  /-- FRAME_FILTERED: a good-check frame that a screen of R169 or R170 drops. -/
  | frameFiltered (port : Port) (frame : Frame)
  /-- FRAME_BAD_CHECK: the bytes received between a frame's start and its end (R169, R209). -/
  | frameBadCheck (port : Port) (bytes : List Byte)
  /-- EARLY_FRAME_DISCARD: what was received in VERIFY (R188). -/
  | earlyFrameDiscard (port : Port) (rx : Reception)
  /-- HELLO_RECEIVED: a HELLO frame with this payload (R188, R189, R209). -/
  | helloReceived (port : Port) (dst src : Byte) (payload : List Byte)
  /-- HELLO_SEND (R188). -/
  | helloSend (port : Port)
  /-- ALIGN_PATTERN_FOUND (R186). -/
  | alignPatternFound (port : Port)
  /-- RECEIVER_LOCK (R187). -/
  | receiverLock (port : Port)
  /-- LOCK_LOST (R189). -/
  | lockLost (port : Port)
  /-- ALIGN_SEEN (R189). -/
  | alignSeen (port : Port)
  /-- TRANSMIT_DONE (R181). -/
  | transmitDone (port : Port)
  /-- RETRY_DELAY_EXPIRY (R185). -/
  | retryDelayExpiry (port : Port)
  /-- BRING_UP_LIMIT_EXPIRY (R185). -/
  | bringUpLimitExpiry (port : Port)
  /-- ALIGN_WINDOW_EXPIRY (R186). -/
  | alignWindowExpiry (port : Port)
  /-- LOCK_WAIT_EXPIRY (R187). -/
  | lockWaitExpiry (port : Port)
  /-- VERIFY_WINDOW_EXPIRY (R188). -/
  | verifyWindowExpiry (port : Port)
  /-- DEADLINE_PASS of a tag (R111). -/
  | deadlinePass (tag : Fin 32)
  /-- QUARANTINE_TIMEOUT of a tag (R116). -/
  | quarantineTimeout (tag : Fin 32)
  /-- WATCHDOG_EXPIRY (R156). -/
  | watchdogExpiry
  /-- SPACING_EXPIRY of a spacing entry (R85). -/
  | spacingExpiry (entry : SpacingEntry)
  /-- HOLD_OFF_EXPIRY (R204). -/
  | holdOffExpiry
  /-- NOTICE_PLACE (R204). -/
  | noticePlace
  /-- IDLE_PLACE (R179). -/
  | idlePlace
  /-- ORDER_ISSUE (R104). -/
  | orderIssue
  /-- REQUEST_KIND_UNKNOWN: the Agent carries out a request of no known kind (R197). -/
  | requestKindUnknown
  /-- PROGRAM_OPEN: the Agent carries out the front request of its queue, a Program Open (R6, R196); so for each request below. -/
  | programOpen
  /-- STEP_WRITE (R7). -/
  | stepWrite
  /-- PROGRAM_CLOSE (R8 to R11). -/
  | programClose
  /-- PROGRAM_ERASE (R12). -/
  | programErase
  /-- READ_PROGRAM (R14 to R16). -/
  | readProgram
  /-- LIFT_ADMIT (R27). -/
  | liftAdmit
  /-- LIFT_CANCEL (R41, R42). -/
  | liftCancel
  /-- LIFT_RESUME (R37 to R40, R92). -/
  | liftResume
  /-- READ_LIFT (R44). -/
  | readLift
  /-- READ_LINE (R45). -/
  | readLine
  /-- PILE_DECLARE (R51). -/
  | pileDeclare
  /-- READ_PILES (R52). -/
  | readPiles
  /-- CHOP_RUN (R96, R97). -/
  | chopRun
  /-- LOAD_TIMING (R122). -/
  | loadTiming
  /-- READ_TIMING (R123). -/
  | readTiming
  /-- READ_ORDERS (R120). -/
  | readOrders
  /-- READ_FAULT_RECORD (R118). -/
  | readFaultRecord
  /-- CLEAR_FAULT_RECORD (R119). -/
  | clearFaultRecord
  /-- SET_PRESSURE (R139). -/
  | setPressure
  /-- REFRESH (R157). -/
  | refresh
  /-- SET_SUPERVISION (R159). -/
  | setSupervision
  /-- READ_CHALLENGE (R160). -/
  | readChallenge
  /-- RELEASE_SAFE (R150). -/
  | releaseSafe
  /-- ENTER_SETUP (R162). -/
  | enterSetup
  /-- LEAVE_SETUP (R163). -/
  | leaveSetup
  /-- HOLD_LINE (R164). -/
  | holdLine
  /-- RESUME_LINE (R165). -/
  | resumeLine
  /-- SET_ROLE (R177). -/
  | setRole
  /-- SET_FORWARD (R178). -/
  | setForward
  /-- SET_PORT (R192). -/
  | setPort
  /-- READ_IDENTITY (R200). -/
  | readIdentity
  /-- READ_STATUS (R201). -/
  | readStatus
  /-- SET_NOTICE (R205). -/
  | setNotice
  /-- CLEAR_NOTICE (R206). -/
  | clearNotice
  /-- LINE_RESET (R202). -/
  | lineReset
  /-- EVENT_DISCARDED: an EVENT frame with this payload that is no READY, CALL or ATTENTION (R172, R210). -/
  | eventDiscarded (port : Port) (dst src : Byte) (payload : List Byte)
  /-- REPORT_MALFORMED: a REPORT frame with this payload that is no report (R210). -/
  | reportMalformed (port : Port) (dst src : Byte) (payload : List Byte)
  deriving DecidableEq, Repr

end Sys2Proof
end

