-- ==== Sys2Proof/Machine/Operands.lean ====
section
/-! DEFINITION. Bytes, the frame check, the frame on the link, and how the payloads of received frames are read (spec/11). -/

namespace Sys2Proof.Machine

/-! ### Byte order (spec/00, Byte order: most significant byte first) -/

/-- The low eight bits of a number as a byte. -/
def byte (n : Nat) : Byte := BitVec.ofNat 8 n

/-- A two-byte field. -/
def be2 (n : Nat) : List Byte := [byte (n / 256), byte n]

/-- A four-byte field. -/
def be4 (n : Nat) : List Byte := [byte (n / 16777216), byte (n / 65536), byte (n / 256), byte n]

/-- The number a two-byte field carries. -/
def nat2 (a b : Byte) : Nat := a.toNat * 256 + b.toNat

/-- The number a four-byte field carries. -/
def nat4 (a b c d : Byte) : Nat := nat2 a b * 65536 + nat2 c d

/-- A signed two-byte field, two's complement (spec/11). -/
def int2 (a b : Byte) : Int := (BitVec.ofNat 16 (nat2 a b)).toInt

/-- A signed number as a two-byte field. -/
def beInt2 (i : Int) : List Byte := be2 (BitVec.ofInt 16 i).toNat

/-- A flag as a byte, 1 when set (spec/11; log 19). -/
def flagByte (b : Bool) : Byte := if b then 1 else 0

/-! ### The frame check (spec/00, Frame check) -/

/-- One shift of the register with polynomial x^16 + x^12 + x^5 + 1. -/
def crcShift (r : BitVec 16) : BitVec 16 := if r.msb then (r <<< 1) ^^^ 0x1021#16 else r <<< 1

/-- One byte into the register, most significant bit first. -/
def crcByte (r : BitVec 16) (b : Byte) : BitVec 16 :=
  (List.range 8).foldl (fun acc _ => crcShift acc) (r ^^^ (b.zeroExtend 16 <<< 8))

/-- The 16-bit CRC of a byte sequence, from all ones. -/
def crc (bytes : List Byte) : BitVec 16 := bytes.foldl crcByte 0xFFFF#16

/-! ### The frame on the link (spec/11, section 11.1) -/

/-- Header and payload. -/
def frameBody (f : Frame) : List Byte := f.dst :: f.src :: f.kind :: byte f.payload.length :: f.payload

/-- The whole frame as sent: header, payload, check. -/
def frameWire (f : Frame) : List Byte := frameBody f ++ be2 (crc (frameBody f)).toNat

/-- The verdict of a port on the bytes between a frame's start and its end (R209, R169). -/
def receive : List Byte → Reception
  | d :: s :: k :: n :: rest =>
    let f : Frame := ⟨d, s, k, rest.take n.toNat⟩
    if n.toNat ≤ Config.maxPayload ∧ rest.length = n.toNat + 2 ∧ rest.drop n.toNat = be2 (crc (frameBody f)).toNat
    then .good f else .bad
  | _ => .bad

/-- An address byte is read as its low six bits (R209). -/
def addressOf (b : Byte) : Nat := b.toNat % 64

/-- Destination address of a frame. -/
def frameTo (f : Frame) : Nat := addressOf f.dst

/-- Source address of a frame. -/
def frameFrom (f : Frame) : Nat := addressOf f.src

/-! ### Frame kinds (spec/11, section 11.1) -/

def kindHello : Byte := 1
def kindRequest : Byte := 2
def kindAnswer : Byte := 3
def kindNotice : Byte := 4
def kindOrder : Byte := 5
def kindReport : Byte := 6
def kindEvent : Byte := 7
def kindManual : Byte := 8
def kindData : Byte := 9
def kindHalt : Byte := 10

/-- The source address names no single other node (R169, screen 2). -/
def badSource (f : Frame) : Bool := frameFrom f == Config.broadcast || frameFrom f == Config.ownAddress

/-- REQUEST, REPORT, EVENT, MANUAL and DATA are the kinds R169 passes on to R170. -/
def classified (k : Byte) : Bool :=
  k == kindRequest || k == kindReport || k == kindEvent || k == kindManual || k == kindData

/-- The frame is dropped as a filter drop by screens 2 to 4 of R169 or, a REQUEST to another destination, by R170. -/
def filtered (f : Frame) : Bool :=
  f.kind != kindHello &&
    (badSource f || !classified f.kind || (f.kind == kindRequest && frameTo f != Config.ownAddress))

/-! ### Payloads of received frames -/

/-- A good HELLO's heard count and answer flag (R209); the flag is clear when its byte is 0 (log 22). -/
def helloOf : List Byte → Option (Nat × Bool)
  | [heard, flag] => if heard.toNat ≤ 2 then some (heard.toNat, flag != 0) else none
  | _ => none

/-- Length of the result data of a DONE report, by the echoed kind's code (spec/11, section 11.5). -/
def doneLength (kind : Byte) : Nat := if kind = 9 then 8 else if kind = 10 then 2 else 0

/-- The payload is a report: R210's REPORT row names what is not. -/
def reportFits : List Byte → Bool
  | _ :: kind :: what :: rest =>
    if what = 1 then rest.length == doneLength kind
    else if what = 2 then (match rest with | f :: _ => decide (1 ≤ f.toNat ∧ f.toNat ≤ 7) | [] => false)
    else what = 3
  | _ => false

/-- The three event kinds (spec/11, section 11.1). -/
inductive Event
  | ready | call
  | attention (cause : Byte)
  deriving DecidableEq, Repr

/-- The event a payload carries; none where R172 and R210 have it discarded. -/
def eventOf : List Byte → Option Event
  | k :: rest =>
    if k = 1 then some .ready
    else if k = 2 then some .call
    else if k = 3 then (match rest with | c :: _ => some (.attention c) | [] => none)
    else none
  | [] => none

end Sys2Proof.Machine
end

