-- ==== Sys2Proof/WellFormed.lean ====
section
/-! DEFINITION. Which commands are well formed: whose operands make the frame or the reception their row names. exec gives every command its effect, well formed or not: a frame is handled as what it is. -/

namespace Sys2Proof

open Machine

/-- The frame's source is a single node and its payload fits a frame (R169 screen 2; R209). -/
def Frame.passes (f : Frame) : Bool := !badSource f && decide (f.payload.length ≤ Config.maxPayload)

/-- The row's conditions on the operands (spec/opcode_table.json summaries; R169 to R172, R188, R209, R210). -/
def Instr.wellFormed : Instr → Bool
  | .requestReceived _ d s p => Frame.passes ⟨d, s, kindRequest, p⟩ && addressOf d == Config.ownAddress
  | .reportDone _ d s t k data => Frame.passes ⟨d, s, kindReport, t :: k :: 1 :: data⟩ && reportFits (t :: k :: 1 :: data)
  | .reportFault _ d s t k f => Frame.passes ⟨d, s, kindReport, [t, k, 2, f]⟩ && reportFits [t, k, 2, f]
  | .reportAbandoned _ d s t k => Frame.passes ⟨d, s, kindReport, [t, k, 3]⟩
  | .ready _ d s => Frame.passes ⟨d, s, kindEvent, [1]⟩
  | .call _ d s => Frame.passes ⟨d, s, kindEvent, [2]⟩
  | .attention _ d s c => Frame.passes ⟨d, s, kindEvent, [3, c]⟩
  | .manualReceived _ d s p => Frame.passes ⟨d, s, kindManual, p⟩
  | .dataReceived _ d s p => Frame.passes ⟨d, s, kindData, p⟩
  | .frameFiltered _ f => filtered f && decide (f.payload.length ≤ Config.maxPayload)
  | .frameBadCheck _ bytes => receive bytes == .bad
  | .earlyFrameDiscard _ .bad => true
  | .earlyFrameDiscard _ (.good f) => f.kind != kindHello || (helloOf f.payload).isNone
  | .helloReceived _ _ _ p => (helloOf p).isSome
  | .eventDiscarded _ d s p => Frame.passes ⟨d, s, kindEvent, p⟩ && (eventOf p).isNone
  | .reportMalformed _ d s p => Frame.passes ⟨d, s, kindReport, p⟩ && !reportFits p
  | .powerOn | .rstnPulse | .estopAsserted | .estopCleared | .curtainAsserted | .curtainCleared
  | .doorAsserted | .doorCleared | .pressOkRise | .pressOkFall => true
  | .helloSend _ | .alignPatternFound _ | .receiverLock _ | .lockLost _ | .alignSeen _ | .transmitDone _
  | .retryDelayExpiry _ | .bringUpLimitExpiry _ | .alignWindowExpiry _ | .lockWaitExpiry _ | .verifyWindowExpiry _ => true
  | .deadlinePass _ | .quarantineTimeout _ | .watchdogExpiry | .spacingExpiry _ | .holdOffExpiry
  | .noticePlace | .idlePlace | .orderIssue => true
  | .requestKindUnknown | .programOpen | .stepWrite | .programClose | .programErase | .readProgram
  | .liftAdmit | .liftCancel | .liftResume | .readLift | .readLine | .pileDeclare | .readPiles | .chopRun
  | .loadTiming | .readTiming | .readOrders | .readFaultRecord | .clearFaultRecord | .setPressure
  | .refresh | .setSupervision | .readChallenge | .releaseSafe | .enterSetup | .leaveSetup | .holdLine | .resumeLine
  | .setRole | .setForward | .setPort | .readIdentity | .readStatus | .setNotice | .clearNotice | .lineReset => true

end Sys2Proof
end

