-- ==== Sys2Proof/Machine/State.lean ====
section
/-! DEFINITION. The state of the part, block by block, as plain data, and the state after reset. -/

namespace Sys2Proof.Machine

/-! ### Names the blocks share -/

/-- The eight roles, in code order (spec/00; spec/11). -/
inductive Role
  | cell | turner | lifter | jogger | gauge | press | rotator | outfeed
  deriving DecidableEq, Repr

/-- Where a lift stands, in line order (spec/00; spec/02 R20). -/
inductive Position
  | none | lifter | jogger | cutter | outfeed
  deriving DecidableEq, Repr

/-- Orientations and rotation angles in degrees (spec/00, Angles). -/
inductive Angle
  | a0 | a90 | a180 | a270
  deriving DecidableEq, Repr

/-- Progress of one order of a pair (spec/02 R20, spec/03 R48). -/
inductive Progress
  | notIssued | inFlight | done | ended
  deriving DecidableEq, Repr

/-- The fault kinds of a FAULT report, and DEADLINE (spec/05 R108, R117; spec/11 section 11.5). -/
inductive FaultKind
  | check | jam | overload | position | pileShort | notReady | station | deadline
  deriving DecidableEq, Repr

/-- The sixteen order kinds (spec/11, section 11.4). -/
inductive OrderKind
  | gaugeMove | gaugeHome | clampDown | knifeCut | clampUp | rotate | receive | pass | align | takeLift
  | acceptPile | presentPile | turnPile | discharge | clear | clearPlatform
  deriving DecidableEq, Repr

/-! ### Program Store (spec/01) -/

/-- The program header without its checksum (R3). -/
structure Header where
  stepCount : Nat
  orientation : Angle
  jogClass : Nat
  skewLimit : Nat
  defaultHeight : Nat
  deriving DecidableEq, Repr

/-- A step record (R4): each kind has exactly its own fields. -/
inductive Step
  | cut (position clampClass : Nat) (releaseAfter : Bool)
  | strip (start pitch runCount clampClass : Nat) (releaseAfter : Bool)
  | rotate (angle : Angle)
  | pause
  deriving DecidableEq, Repr

/-- What a slot holds in each of its states EMPTY, LOADING and READY (R1). The written set is the indices whose place holds a record. -/
inductive SlotBody
  | empty
  | loading (header : Header) (steps : List (Option Step))
  | ready (header : Header) (checksum : Nat) (steps : List Step)
  deriving DecidableEq, Repr

/-- A program slot (R1, R2). -/
structure Slot where
  body : SlotBody
  useCount : Nat
  deriving DecidableEq, Repr

/-! ### Lift Tracker (spec/02) -/

/-- The hold causes (R20, R32). -/
inductive HoldCause
  | opFault (kind : OrderKind) (fault : FaultKind)
  | deadline | handover | skew | range | pause | stopped | link
  deriving DecidableEq, Repr

/-- The six lift states (R21); the hold cause is present in HELD only. -/
inductive LiftState
  | waiting | working | ready | passing
  | held (cause : HoldCause)
  | clearing
  deriving DecidableEq, Repr

/-- The fields an Align DONE measures (R20, spec/03 R67). -/
structure Measured where
  height : Nat
  dx : Int
  dy : Int
  skew : Nat
  deriving DecidableEq, Repr

/-- A live lift record (R20). -/
structure Lift where
  id : Nat
  slot : Nat
  state : LiftState
  position : Position
  /-- Reserved destination. -/
  dest : Option Position
  /-- Pair progress: Pass or source Clear, then Receive or destination Clear. -/
  pair : Option (Progress × Progress)
  targetHeight : Nat
  measured : Option Measured
  orientation : Option Angle
  stepIndex : Nat
  runRemaining : Nat
  /-- Cut uncertain flag. -/
  uncertain : Bool
  /-- Pending chop: step index and count. -/
  chop : Option (Nat × Nat)
  cutsMade : Nat
  deriving DecidableEq, Repr

/-- An entry of the position table (R24). -/
inductive PosEntry
  | free
  | standing (id : Nat)
  | reserved (id : Nat)
  deriving DecidableEq, Repr

/-- The ready marks of the three stations that receive lifts (R25). -/
structure Tracker where
  jogger : Bool
  rotator : Bool
  outfeed : Bool
  deriving DecidableEq, Repr

/-! ### Infeed Sequencer (spec/03) -/

/-- The seven pile states (R49). -/
inductive PileState
  | declared | turning | turned | moving | feeding | empty | short
  deriving DecidableEq, Repr

/-- Where a pile stands (R48). -/
inductive PilePosition
  | none | turner | lifter
  deriving DecidableEq, Repr

/-- Clear progress of a pile on the platform (R48). -/
inductive ClearProgress
  | notIssued | inFlight | failed
  deriving DecidableEq, Repr

/-- A live pile record (R48). -/
structure Pile where
  id : Nat
  state : PileState
  position : PilePosition
  flip : Bool
  declared : Nat
  remaining : Nat
  taken : Nat
  heightLeft : Option Nat
  /-- Move progress: Present Pile, then Accept Pile. -/
  move : Option (Progress × Progress)
  clear : Option ClearProgress
  deriving DecidableEq, Repr

/-- The reasons of an Idle, in code order (spec/11, section 11.4). -/
inductive IdleReason
  | noLift | noPile | budgetZero | stopped | positionBusy
  deriving DecidableEq, Repr

/-- An Idle that waits for room: the reason decided, the port chosen, and the address called from (spec/08 R179; the address: log 24). -/
structure WaitingIdle where
  reason : IdleReason
  port : Port
  address : Nat
  deriving DecidableEq, Repr

/-- What the Infeed Sequencer keeps beside the piles (R53, R54, R59; spec/08 R179). -/
structure Infeed where
  turnerMark : Bool
  turnerCall : Bool
  lifterCall : Bool
  turnerIdle : Option WaitingIdle
  lifterIdle : Option WaitingIdle
  deriving DecidableEq, Repr

/-! ### Cutter Sequencer (spec/04) -/

/-- Clamp states (R70). -/
inductive Clamp
  | up | down | unknown
  deriving DecidableEq, Repr

/-- Knife states (R70). -/
inductive Knife
  | top | unknown
  deriving DecidableEq, Repr

/-- Gauge states (R70). -/
inductive Gauge
  | known (position : Nat)
  | unknown
  deriving DecidableEq, Repr

/-- Rotator states (R70). -/
inductive Rotator
  | ready | unknown
  deriving DecidableEq, Repr

/-- Cut stages (R74, R78). -/
inductive CutStage
  | none | set | clamp | cut | release
  deriving DecidableEq, Repr

/-- Recovery stages (R93). -/
inductive Recovery
  | clear | clamp | home | rotator
  deriving DecidableEq, Repr

/-- The spacing record (R74, R85): for each start event the ms since it was last taken, or none. Held as elapsed time that stops counting beyond the largest interval (log 26). -/
structure Spacing where
  clampUp : Option Nat
  gauge : Option Nat
  clampDown : Option Nat
  knifeCut : Option Nat
  /-- Knife Cut DONE with release-after set. -/
  knifeRelease : Option Nat
  rotate : Option Nat
  /-- Knife Cut issue. -/
  knifeIssue : Option Nat
  deriving DecidableEq, Repr

/-- The Cutter Sequencer's state (R70, R74). -/
structure Cutter where
  clamp : Clamp
  knife : Knife
  gauge : Gauge
  rotator : Rotator
  stage : CutStage
  cutNumber : Nat
  cutTarget : Option Nat
  recovery : Recovery
  /-- The recovery order in flight was overtaken by a further setting of the stage to CLAMP (R93; log 28). -/
  overtaken : Bool
  spacing : Spacing
  /-- Lift id and step index of the Knife Cut last issued (R82). -/
  lastKnife : Option (Nat × Nat)
  holdOver : Nat
  deriving DecidableEq, Repr

/-! ### Order Table (spec/05) -/

/-- An order with what its kind carries (R101, R107; spec/11 section 11.4). Station role, kind, subject, parameters and the uses-pressure flag are read from it. -/
inductive Order
  | gaugeMove (lift target : Nat)
  | gaugeHome
  | clampDown (lift clampClass : Nat)
  | knifeCut (lift : Nat) (releaseAfter : Bool)
  /-- No lift: the recovery Clamp Up. -/
  | clampUp (lift : Option Nat)
  | rotate (lift : Nat) (angle : Angle)
  | receive (lift : Nat) (station : Role) (entry : Angle)
  | pass (lift : Nat) (station destination : Role)
  | align (lift jogClass : Nat)
  | takeLift (lift height : Nat)
  | acceptPile (pile : Nat)
  | presentPile (pile : Nat)
  | turnPile (pile : Nat) (flip : Bool)
  | discharge (lift : Nat)
  | clear (lift : Nat) (station : Role)
  | clearPlatform (pile : Nat)
  deriving DecidableEq, Repr

/-- Quarantine causes (R101). -/
inductive QuarantineCause
  | deadline | stopped | link
  deriving DecidableEq, Repr

/-- The order record of a tag (R101): the order, and the port through which its frame was queued. -/
structure OrderRecord where
  order : Order
  port : Port
  deriving DecidableEq, Repr

/-- A tag's state with the fields present in it (R101). -/
inductive Tag
  | free
  | pending (record : OrderRecord) (deadline : Nat)
  | quarantined (record : OrderRecord) (cause : QuarantineCause) (timer : Nat)
  deriving DecidableEq, Repr

/-- An entry of the issue request list (R102): one order, or a pair to be issued together. -/
structure IssueRequest where
  first : Order
  second : Option Order
  deriving DecidableEq, Repr

/-- The First-Fault Record (R117). -/
structure FaultRecord where
  tag : Nat
  order : Order
  fault : FaultKind
  lineTime : Nat
  deriving DecidableEq, Repr

/-- What the Order Table keeps beside the tags (R102, R110, R117). -/
structure Orders where
  mark : Nat
  requests : List IssueRequest
  firstFault : Option FaultRecord
  faultCount : Nat
  staleCount : Nat
  deriving DecidableEq, Repr

/-! ### Pressure Arbiter (spec/06) -/

/-- The three stations on the supply (R126). -/
inductive Hydraulic
  | press | turner | lifter
  deriving DecidableEq, Repr

/-- The phases of a holder (R126); no holder is phase NONE. -/
inductive Phase
  | granted | busy | kept
  deriving DecidableEq, Repr

/-- One request flag for each station (R126). -/
structure RequestFlags where
  press : Bool
  turner : Bool
  lifter : Bool
  deriving DecidableEq, Repr

/-- The Arbiter's state (R126). -/
structure Arbiter where
  /-- Holder and holder phase; none is NONE, NONE. -/
  grant : Option (Hydraulic × Phase)
  flags : RequestFlags
  priority : List Hydraulic
  holdOver : Bool
  cap : Nat
  yield : Bool
  deriving DecidableEq, Repr

/-! ### Line Supervisor (spec/07) -/

/-- The line modes, in code order (R142). -/
inductive Mode
  | run | hold | safe | setup
  deriving DecidableEq, Repr

/-- The mode causes, in code order (R142). -/
inductive ModeCause
  | powerOn | request | estop | curtain | door | watchdog | link | deadline | resume
  deriving DecidableEq, Repr

/-- Watchdog styles (R142). -/
inductive WatchdogStyle
  | timeout | window
  deriving DecidableEq, Repr

/-- Watchdog checks (R142). -/
inductive WatchdogCheck
  | plain | rolling
  deriving DecidableEq, Repr

/-- The levels of the input lines (spec/00, Signal summary): the guard states of R142 follow the first three; true is asserted, or high for PRESS_OK. -/
structure Inputs where
  curtain : Bool
  door : Bool
  estop : Bool
  pressOk : Bool
  deriving DecidableEq, Repr

/-- The Supervisor's state (R142). -/
structure Supervisor where
  mode : Mode
  cause : ModeCause
  deferred : Option ModeCause
  safeOutput : Bool
  running : Bool
  /-- Code of the period: 0 for 20 ms to 7 for 2,560 ms. -/
  period : Fin 8
  style : WatchdogStyle
  check : WatchdogCheck
  escalation : Nat
  failures : Nat
  elapsed : Nat
  refreshCode : BitVec 12
  challenge : Option (BitVec 12)
  lastChallenge : Option (BitVec 12)
  deriving DecidableEq, Repr

/-! ### Frame Router and Link Ports (spec/08, spec/09) -/

/-- The Role Table (spec/08 R176): CELL is assigned at every moment. -/
structure RoleTable where
  cell : Nat
  turner : Option Nat
  lifter : Option Nat
  jogger : Option Nat
  gauge : Option Nat
  press : Option Nat
  rotator : Option Nat
  outfeed : Option Nat
  deriving DecidableEq, Repr

/-- An entry of the Forwarding Table (spec/08 R168), in code order. -/
inductive Route
  | west | east | none
  deriving DecidableEq, Repr

/-- A frame the part originates; answerOfRetrain marks the ANSWER that retrain pending names (spec/09 R192; log 25). -/
structure OwnFrame where
  frame : Frame
  answerOfRetrain : Bool
  deriving DecidableEq, Repr

/-- A forwarded frame with the port it was received on (spec/08 R168). -/
structure ForwardedFrame where
  frame : Frame
  received : Port
  deriving DecidableEq, Repr

/-- Port states (spec/09 R184). -/
inductive PortState
  | down | align | lock | verify | up
  deriving DecidableEq, Repr

/-- Link rates (spec/09 R184). -/
inductive Rate
  | r12 | r25 | r50
  deriving DecidableEq, Repr

/-- Causes of the last loss (spec/09 R184). -/
inductive LossCause
  | none | badRun | lockLost | alignSeen | retrain
  deriving DecidableEq, Repr

/-- The four port settings (spec/09 R184). -/
structure PortSettings where
  alignWindow : Nat
  bringUpLimit : Nat
  lockWait : Nat
  lockIgnore : Bool
  deriving DecidableEq, Repr

/-- The five port counters (spec/09 R193). -/
structure PortCounters where
  ups : Nat
  losses : Nat
  failures : Nat
  earlyDiscards : Nat
  queueDiscards : Nat
  deriving DecidableEq, Repr

/-- The six router counters of a receiving port (spec/08 R182). -/
structure RouterCounters where
  badCheck : Nat
  filter : Nat
  noRoute : Nat
  queueFull : Nat
  consumed : Nat
  forwarded : Nat
  deriving DecidableEq, Repr

/-- One link port with its transmit side (spec/09 R184; spec/08 R168). -/
structure Link where
  state : PortState
  rate : Rate
  active : PortSettings
  stagedRate : Rate
  staged : PortSettings
  retryDelay : Nat
  bringUp : Nat
  window : Nat
  hellos : Nat
  badRun : Nat
  /-- Retrain pending (WEST only). -/
  retrain : Bool
  helloAnswer : Bool
  lastLoss : LossCause
  counters : PortCounters
  own : List OwnFrame
  forward : List ForwardedFrame
  /-- HALT pending. -/
  halt : Bool
  burst : Nat
  /-- The frame being sent, or none (spec/08 R181; log 23). -/
  sending : Option OwnFrame
  router : RouterCounters
  deriving DecidableEq, Repr

/-! ### Management (spec/10) -/

/-- The ATTENTION record (R203). -/
structure Attention where
  role : Role
  code : Byte
  count : Nat
  deriving DecidableEq, Repr

/-- The Notice Unit (R203); sets of causes are bits as in spec/11 section 11.3. -/
structure Notices where
  pending : BitVec 10
  mask : BitVec 10
  holdOff : Nat
  /-- Time since the last NOTICE, which stops counting beyond the largest hold-off (log 26). -/
  since : Nat
  due : Bool
  attention : Option Attention
  deriving DecidableEq, Repr

/-! ### The whole part -/

/-- Everything the spec gives the part. -/
structure Coordinator where
  slots : Vector Slot 16
  /-- The live lift records in Line Order, front first (spec/02 R20, R22; log 18). -/
  lifts : List Lift
  tracker : Tracker
  /-- The live pile records in Pile Order, front first (spec/03 R48, R50; log 18). -/
  piles : List Pile
  infeed : Infeed
  cutter : Cutter
  tags : Vector Tag 32
  orders : Orders
  timing : Vector Nat 21
  arbiter : Arbiter
  sup : Supervisor
  inputs : Inputs
  roles : RoleTable
  routes : Vector Route 64
  west : Link
  east : Link
  /-- The Management Agent's request queue, front first (spec/10 R195). -/
  agent : List Frame
  notices : Notices
  lineTime : Nat
  /-- The model's own counter of free values drawn (logs 4, 5, 39). -/
  draws : Nat
  deriving DecidableEq, Repr

/-- The state of the model: the part, and the commands that wait, first in, first out. -/
structure State where
  blk : Coordinator
  pending : List Instr
  deriving DecidableEq, Repr

/-- Reasons to stop with a fault. The spec gives every command an effect in every state, so there is none (safe: nothing stops). -/
inductive Fault
  deriving DecidableEq, Repr

/-- Reasons to refuse a command. -/
inductive Refusal
  /-- Raised by exec's arm of a command without a meaning, by name; no arm of this model does (safe: the model stops). -/
  | notModelled (mnemonic : String)
  deriving DecidableEq, Repr

/-! ### Reset -/

/-- A port after reset (spec/09 R184, R194; spec/08 R183). The two elapsed times have no default there: 0, DESIGN CHOICE, unsafe, log 3. -/
def Link.reset : Link where
  state := .down
  rate := .r12
  active := ⟨10, 500, 5, false⟩
  stagedRate := .r12
  staged := ⟨10, 500, 5, false⟩
  retryDelay := Config.retryDelay
  bringUp := 0
  window := 0
  hellos := 0
  badRun := 0
  retrain := false
  helloAnswer := false
  lastLoss := .none
  counters := ⟨0, 0, 0, 0, 0⟩
  own := []
  forward := []
  halt := false
  burst := 0
  sending := none
  router := ⟨0, 0, 0, 0, 0, 0⟩

/-- The Cutter Sequencer after reset (spec/04 R99). -/
def Cutter.reset : Cutter where
  clamp := .unknown
  knife := .unknown
  gauge := .unknown
  rotator := .unknown
  stage := .none
  cutNumber := 0
  cutTarget := none
  recovery := .clamp
  overtaken := false
  spacing := ⟨none, none, none, none, none, none, none⟩
  lastKnife := none
  holdOver := 0

/-- The Supervisor after reset (spec/07 R166). The period elapsed has no value there: 0, DESIGN CHOICE, unsafe, log 3. -/
def Supervisor.reset : Supervisor where
  mode := .safe
  cause := .powerOn
  deferred := none
  safeOutput := true
  running := false
  period := 4
  style := .timeout
  check := .plain
  escalation := 2
  failures := 0
  elapsed := 0
  refreshCode := 0
  challenge := none
  lastChallenge := none

/-- Every block after reset with the input lines as they stand (R18, R46, R68, R99, R124, R140, R166, R183, R194, R195, R207). -/
def Coordinator.resetWith (inputs : Inputs) (draws : Nat) : Coordinator where
  slots := Vector.replicate 16 ⟨.empty, 0⟩
  lifts := []
  tracker := ⟨false, false, false⟩
  piles := []
  infeed := ⟨false, false, false, none, none⟩
  cutter := Cutter.reset
  tags := Vector.replicate 32 .free
  orders := ⟨31, [], none, 0, 0⟩
  timing := Config.timingDefaults
  arbiter := ⟨none, ⟨false, false, false⟩, [.press, .turner, .lifter], true, 8, false⟩
  sup := Supervisor.reset
  inputs := inputs
  roles := ⟨1, none, none, none, none, none, none, none⟩
  routes := Vector.replicate 64 .none
  west := Link.reset
  east := Link.reset
  agent := []
  notices := ⟨16, 1023, 50, Config.sinceMax, true, none⟩
  lineTime := 0
  draws := draws

/-- The model right after reset. The input lines are outside the part: guards CLEAR and PRESS_OK low, DESIGN CHOICE, unsafe, log 1. -/
def State.reset : State :=
  ⟨Coordinator.resetWith ⟨false, false, false, false⟩ 0, []⟩

end Sys2Proof.Machine
end

