-- ==== Sys2Proof/Machine/Flags.lean ====
section
/-! DEFINITION. The bits of the flag bytes and of the cause sets (spec/11, sections 11.2, 11.3 and 11.6). -/

namespace Sys2Proof.Machine

/-- The ten notice causes, in the order of their bits (spec/10 R203; spec/11 section 11.3). -/
inductive Cause
  | liftDone | liftHeld | pileEmpty | pileShort | modeChange | portChange | fault | stale | supervision | station
  deriving DecidableEq, Repr

/-- The bit of a cause. -/
def Cause.index : Cause → Nat
  | .liftDone => 0 | .liftHeld => 1 | .pileEmpty => 2 | .pileShort => 3 | .modeChange => 4
  | .portChange => 5 | .fault => 6 | .stale => 7 | .supervision => 8 | .station => 9

/-- The set holding one cause. -/
def Cause.bit (c : Cause) : BitVec 10 := 1#10 <<< c.index

/-- The cause is in the set. -/
def Cause.isIn (c : Cause) (set : BitVec 10) : Bool := set.getLsbD c.index

/-- A cause set as a two-byte field, bits 10 to 15 zero. -/
def causeField (set : BitVec 10) : List Byte := be2 set.toNat

/-- The cause set a two-byte field names, none where it names anything other than the ten causes. -/
def causesOf (n : Nat) : Option (BitVec 10) := if n < 1024 then some (BitVec.ofNat 10 n) else none

/-- A byte of single bits, bit 0 first. -/
def bitsByte (bits : List Bool) : Byte :=
  byte (bits.foldr (fun b acc => (if b then 1 else 0) + 2 * acc) 0)

/-- Guard bits: bit 0 CURTAIN, bit 1 DOOR, bit 2 ESTOP (R208). -/
def guardBits (curtain door estop : Bool) : Byte := bitsByte [curtain, door, estop]

/-- Request flags: bit 0 PRESS, bit 1 TURNER, bit 2 LIFTER (R208). -/
def requestBits (f : RequestFlags) : Byte := bitsByte [f.press, f.turner, f.lifter]

/-- Presence byte of a lift record (spec/11, section 11.6). -/
def liftPresence (l : Lift) : Byte :=
  bitsByte [l.measured.isSome, l.orientation.isSome, l.dest.isSome, l.pair.isSome, l.chop.isSome,
    match l.state with | .held _ => true | _ => false]

/-- Presence byte of a pile record (spec/11, section 11.6). -/
def pilePresence (p : Pile) : Byte := bitsByte [p.heightLeft.isSome, p.move.isSome, p.clear.isSome]

/-- Two-bit codes four to a byte, the first in the low two bits of the first byte (R208, Read Orders and Set Forward). -/
def packTwoBits : List Nat → List Byte
  | a :: b :: c :: d :: rest => byte (a + 4 * b + 16 * c + 64 * d) :: packTwoBits rest
  | _ => []

end Sys2Proof.Machine
end

