-- ==== Sys2Proof/Machine/Layouts.lean ====
section
/-! DEFINITION. The codes of enumerated fields and the records as they cross the link (spec/11). -/

namespace Sys2Proof.Machine

/-! ### Enumerated fields: the place in the list of the defining table, from 0 -/

def Role.code : Role → Nat
  | .cell => 0 | .turner => 1 | .lifter => 2 | .jogger => 3 | .gauge => 4 | .press => 5 | .rotator => 6 | .outfeed => 7

def Role.ofCode : Nat → Option Role
  | 0 => some .cell | 1 => some .turner | 2 => some .lifter | 3 => some .jogger
  | 4 => some .gauge | 5 => some .press | 6 => some .rotator | 7 => some .outfeed
  | _ => none

/-- All roles in code order. -/
def Role.all : List Role := [.cell, .turner, .lifter, .jogger, .gauge, .press, .rotator, .outfeed]

def Position.code : Position → Nat
  | .none => 0 | .lifter => 1 | .jogger => 2 | .cutter => 3 | .outfeed => 4

def Progress.code : Progress → Nat
  | .notIssued => 0 | .inFlight => 1 | .done => 2 | .ended => 3

def Angle.degrees : Angle → Nat
  | .a0 => 0 | .a90 => 90 | .a180 => 180 | .a270 => 270

def Angle.ofDegrees : Nat → Option Angle
  | 0 => some .a0 | 90 => some .a90 | 180 => some .a180 | 270 => some .a270
  | _ => none

/-- Adding angles modulo 360 (spec/00, Angles). -/
def Angle.add (a b : Angle) : Angle := (Angle.ofDegrees ((a.degrees + b.degrees) % 360)).getD .a0

def LiftState.code : LiftState → Nat
  | .waiting => 0 | .working => 1 | .ready => 2 | .passing => 3 | .held _ => 4 | .clearing => 5

def FaultKind.code : FaultKind → Nat
  | .check => 1 | .jam => 2 | .overload => 3 | .position => 4 | .pileShort => 5 | .notReady => 6 | .station => 7 | .deadline => 8

/-- The fault kinds a FAULT report may carry (spec/11, section 11.5). -/
def FaultKind.ofCode : Nat → Option FaultKind
  | 1 => some .check | 2 => some .jam | 3 => some .overload | 4 => some .position
  | 5 => some .pileShort | 6 => some .notReady | 7 => some .station
  | _ => none

def OrderKind.code : OrderKind → Nat
  | .gaugeMove => 1 | .gaugeHome => 2 | .clampDown => 3 | .knifeCut => 4 | .clampUp => 5 | .rotate => 6
  | .receive => 7 | .pass => 8 | .align => 9 | .takeLift => 10 | .acceptPile => 11 | .presentPile => 12
  | .turnPile => 13 | .discharge => 14 | .clear => 15 | .clearPlatform => 16

def HoldCause.code : HoldCause → Nat
  | .opFault _ _ => 0 | .deadline => 1 | .handover => 2 | .skew => 3 | .range => 4 | .pause => 5 | .stopped => 6 | .link => 7

def PileState.code : PileState → Nat
  | .declared => 0 | .turning => 1 | .turned => 2 | .moving => 3 | .feeding => 4 | .empty => 5 | .short => 6

def PilePosition.code : PilePosition → Nat
  | .none => 0 | .turner => 1 | .lifter => 2

def ClearProgress.code : ClearProgress → Nat
  | .notIssued => 0 | .inFlight => 1 | .failed => 2

def IdleReason.code : IdleReason → Nat
  | .noLift => 0 | .noPile => 1 | .budgetZero => 2 | .stopped => 3 | .positionBusy => 4

/-- The reason of a code. -/
def IdleReason.ofCode : Fin 5 → IdleReason
  | 0 => .noLift | 1 => .noPile | 2 => .budgetZero | 3 => .stopped | 4 => .positionBusy

def Clamp.code : Clamp → Nat
  | .up => 0 | .down => 1 | .unknown => 2

def Knife.code : Knife → Nat
  | .top => 0 | .unknown => 1

def Rotator.code : Rotator → Nat
  | .ready => 0 | .unknown => 1

def Recovery.code : Recovery → Nat
  | .clear => 0 | .clamp => 1 | .home => 2 | .rotator => 3

def Mode.code : Mode → Nat
  | .run => 0 | .hold => 1 | .safe => 2 | .setup => 3

def ModeCause.code : ModeCause → Nat
  | .powerOn => 0 | .request => 1 | .estop => 2 | .curtain => 3 | .door => 4 | .watchdog => 5
  | .link => 6 | .deadline => 7 | .resume => 8

/-- A deferred hold is coded as a mode cause, 255 when absent (R208). -/
def deferredCode : Option ModeCause → Nat
  | some c => c.code
  | none => 255

def Phase.code : Phase → Nat
  | .granted => 1 | .busy => 2 | .kept => 3

/-- Holder in the answer to Set Pressure: NONE 0, PRESS 1, TURNER 2, LIFTER 3 (R208). -/
def Hydraulic.holderCode : Hydraulic → Nat
  | .press => 1 | .turner => 2 | .lifter => 3

/-- The role of a hydraulic station (spec/06 R126). -/
def Hydraulic.role : Hydraulic → Role
  | .press => .press | .turner => .turner | .lifter => .lifter

def Hydraulic.ofRoleCode : Nat → Option Hydraulic
  | 5 => some .press | 1 => some .turner | 2 => some .lifter
  | _ => none

def WatchdogStyle.code : WatchdogStyle → Nat
  | .timeout => 0 | .window => 1

def WatchdogCheck.code : WatchdogCheck → Nat
  | .plain => 0 | .rolling => 1

def PortState.code : PortState → Nat
  | .down => 0 | .align => 1 | .lock => 2 | .verify => 3 | .up => 4

def Rate.code : Rate → Nat
  | .r12 => 0 | .r25 => 1 | .r50 => 2

def LossCause.code : LossCause → Nat
  | .none => 0 | .badRun => 1 | .lockLost => 2 | .alignSeen => 3 | .retrain => 4

def Route.code : Route → Nat
  | .west => 0 | .east => 1 | .none => 2

def QuarantineCause.code : QuarantineCause → Nat
  | .deadline => 0 | .stopped => 1 | .link => 2

def Tag.code : Tag → Nat
  | .free => 0 | .pending _ _ => 1 | .quarantined _ _ _ => 2

def portCode : Port → Nat
  | .west => 0 | .east => 1

/-! ### What an order is, read from it (spec/05 R101, spec/11 section 11.4) -/

def Order.role : Order → Role
  | .gaugeMove _ _ | .gaugeHome => .gauge
  | .clampDown _ _ | .knifeCut _ _ | .clampUp _ => .press
  | .rotate _ _ => .rotator
  | .receive _ r _ => r
  | .pass _ r _ => r
  | .align _ _ => .jogger
  | .takeLift _ _ | .acceptPile _ | .clearPlatform _ => .lifter
  | .presentPile _ | .turnPile _ _ => .turner
  | .discharge _ => .outfeed
  | .clear _ r => r

def Order.kind : Order → OrderKind
  | .gaugeMove _ _ => .gaugeMove | .gaugeHome => .gaugeHome | .clampDown _ _ => .clampDown | .knifeCut _ _ => .knifeCut
  | .clampUp _ => .clampUp | .rotate _ _ => .rotate | .receive _ _ _ => .receive | .pass _ _ _ => .pass
  | .align _ _ => .align | .takeLift _ _ => .takeLift | .acceptPile _ => .acceptPile | .presentPile _ => .presentPile
  | .turnPile _ _ => .turnPile | .discharge _ => .discharge | .clear _ _ => .clear | .clearPlatform _ => .clearPlatform

/-- The subject lift, where the kind has one. -/
def Order.lift : Order → Option Nat
  | .gaugeMove l _ | .clampDown l _ | .knifeCut l _ | .rotate l _ | .receive l _ _ | .pass l _ _
  | .align l _ | .takeLift l _ | .discharge l | .clear l _ => some l
  | .clampUp l => l
  | .gaugeHome | .acceptPile _ | .presentPile _ | .turnPile _ _ | .clearPlatform _ => none

/-- The subject pile, where the kind has one. -/
def Order.pile : Order → Option Nat
  | .acceptPile p | .presentPile p | .turnPile p _ | .clearPlatform p => some p
  | _ => none

/-- The subject: a lift id or a pile id; absent for Gauge Home and the recovery Clamp Up. -/
def Order.subject (o : Order) : Option Nat := o.lift <|> o.pile

/-- The parameter bytes (spec/11, section 11.4). -/
def Order.params : Order → List Byte
  | .gaugeMove _ t => be4 t
  | .gaugeHome | .clampUp _ => []
  | .clampDown _ c => [byte c]
  | .knifeCut _ r => [flagByte r]
  | .rotate _ a => be2 a.degrees
  | .receive l _ e => byte l :: be2 e.degrees
  | .pass l _ d => [byte l, byte d.code]
  | .align l j => [byte l, byte j]
  | .takeLift l h => byte l :: be2 h
  | .acceptPile p | .presentPile p | .clearPlatform p => [byte p]
  | .turnPile p f => [byte p, flagByte f]
  | .discharge l | .clear l _ => [byte l]

/-- Uses pressure: Turn Pile, Take Lift, Clamp Down, Knife Cut and Clamp Up (R101, R126). -/
def Order.usesPressure : Order → Bool
  | .turnPile _ _ | .takeLift _ _ | .clampDown _ _ | .knifeCut _ _ | .clampUp _ => true
  | _ => false

/-- The hydraulic station of an order that uses pressure. -/
def Order.hydraulic : Order → Option Hydraulic
  | .turnPile _ _ => some .turner
  | .takeLift _ _ => some .lifter
  | .clampDown _ _ | .knifeCut _ _ | .clampUp _ => some .press
  | _ => none

/-- The Timing Table entry of the order's deadline (R121). -/
def Order.deadlineEntry : Order → Fin 21
  | .gaugeMove _ _ | .gaugeHome => 9
  | .clampDown _ _ | .clampUp _ => 10
  | .knifeCut _ _ => 11
  | .rotate _ _ => 12
  | .takeLift _ _ => 13
  | .align _ _ => 14
  | .receive _ _ _ | .pass _ _ _ => 15
  | .turnPile _ _ => 16
  | .acceptPile _ | .presentPile _ => 17
  | .discharge _ => 18
  | .clear _ _ | .clearPlatform _ => 19

/-- The order check: the exclusive-or of tag, kind and every parameter byte (R105). -/
def orderCheck (tag : Nat) (o : Order) : Byte :=
  (Order.params o).foldl (· ^^^ ·) (byte tag ^^^ byte o.kind.code)

/-- The payload of an ORDER frame (spec/11, section 11.4). -/
def orderPayload (tag : Nat) (o : Order) : List Byte :=
  byte tag :: byte o.kind.code :: (Order.params o ++ [orderCheck tag o])

/-- The payload of an Idle: tag byte 255, kind 0, the reason, no order check (log 20). -/
def idlePayload (r : IdleReason) : List Byte := [255, 0, byte r.code]

/-! ### Records (spec/11, section 11.6) -/

/-- A step record, 12 bytes, absent fields zero (R4). -/
def stepRecord : Step → List Byte
  | .cut p c r => 1 :: (be4 p ++ [0, 0, 0, byte c, flagByte r, 0, 0])
  | .strip p q n c r => 2 :: (be4 p ++ be2 q ++ [byte n, byte c, flagByte r, 0, 0])
  | .rotate a => [3, 0, 0, 0, 0, 0, 0, 0, 0, 0] ++ be2 a.degrees
  | .pause => [4, 0, 0, 0, 0, 0, 0, 0, 0, 0, 0, 0]

/-- The gauge range (spec/00, Lengths). -/
def inGaugeRange (n : Nat) : Bool := decide (Config.gaugeMin ≤ n ∧ n ≤ Config.gaugeMax)

/-- A flag byte: 0 or 1, anything else out of range (R210). -/
def flagOf (b : Byte) : Option Bool := if b = 0 then some false else if b = 1 then some true else none

/-- The step a record of the Step Write request carries, none where check 4 of R7 refuses it (R4). -/
def stepOf : List Byte → Option Step
  | [k, p3, p2, p1, p0, q1, q0, n, c, r, a1, a0] =>
    let p := nat4 p3 p2 p1 p0
    let q := nat2 q1 q0
    let classOk := decide (1 ≤ c.toNat ∧ c.toNat ≤ 4)
    if k = 1 then
      match flagOf r with
      | some rel => if inGaugeRange p && classOk then some (.cut p c.toNat rel) else none
      | none => none
    else if k = 2 then
      match flagOf r with
      | some rel =>
        if inGaugeRange p && classOk && decide (100 ≤ q ∧ q ≤ 50000) && decide (2 ≤ n.toNat ∧ n.toNat ≤ 32)
        then some (.strip p q n.toNat c.toNat rel) else none
      | none => none
    else if k = 3 then
      match Angle.ofDegrees (nat2 a1 a0) with
      | some .a0 => none
      | some a => some (.rotate a)
      | none => none
    else if k = 4 then some .pause
    else none
  | _ => none

/-- The header fields after the slot number (spec/11, section 11.6). -/
def headerBytes (h : Header) : List Byte :=
  byte h.stepCount :: (be2 h.orientation.degrees ++ [byte h.jogClass] ++ be2 h.skewLimit ++ be2 h.defaultHeight)

/-- The header a Program Open carries, none where a field lies outside its range in R3. -/
def headerOf : List Byte → Option Header
  | [n, o1, o0, j, s1, s0, h1, h0] =>
    match Angle.ofDegrees (nat2 o1 o0) with
    | some o =>
      if 1 ≤ n.toNat ∧ n.toNat ≤ Config.stepsPerProgram ∧ 1 ≤ j.toNat ∧ j.toNat ≤ 4 ∧ nat2 s1 s0 ≤ 200 ∧ 50 ≤ nat2 h1 h0 ∧ nat2 h1 h0 ≤ 1650
      then some ⟨n.toNat, o, j.toNat, nat2 s1 s0, nat2 h1 h0⟩ else none
    | none => none
  | _ => none

/-- Pair progress as two bytes, zero when absent. -/
def pairBytes : Option (Progress × Progress) → List Byte
  | some (a, b) => [byte a.code, byte b.code]
  | none => [0, 0]

/-- The hold cause, and order kind and fault kind for OP_FAULT; zero otherwise. -/
def holdBytes : LiftState → List Byte
  | .held (.opFault k f) => [0, byte k.code, byte f.code]
  | .held c => [byte c.code, 0, 0]
  | _ => [0, 0, 0]

/-- The lift record as Read Lift returns it, 31 bytes; place is its place in the Line Order. -/
def liftRecord (l : Lift) (place : Nat) : List Byte :=
  [byte l.id, byte l.slot, byte l.state.code, byte l.position.code, liftPresence l,
    byte ((l.dest.map Position.code).getD 0)] ++ pairBytes l.pair ++ be2 l.targetHeight ++
  (match l.measured with
    | some m => be2 m.height ++ beInt2 m.dx ++ beInt2 m.dy ++ be2 m.skew
    | none => [0, 0, 0, 0, 0, 0, 0, 0]) ++
  be2 ((l.orientation.map Angle.degrees).getD 0) ++
  [byte l.stepIndex, byte l.runRemaining, flagByte l.uncertain] ++
  (match l.chop with
    | some (i, c) => [byte i, byte c]
    | none => [0, 0]) ++
  holdBytes l.state ++ be2 l.cutsMade ++ [byte place]

/-- The pile record as Read Piles returns it, 13 bytes. -/
def pileRecord (p : Pile) : List Byte :=
  [byte p.id, byte p.state.code, byte p.position.code, flagByte p.flip, byte p.declared, byte p.remaining, byte p.taken,
    pilePresence p] ++ be2 (p.heightLeft.getD 0) ++ pairBytes p.move ++ [byte ((p.clear.map ClearProgress.code).getD 0)]

/-- The First-Fault Record as the reads return it, its presence first, zero when empty (R208). The subject byte of a full record without a subject is 0: DESIGN CHOICE, log 41. -/
def faultRecordBytes : Option FaultRecord → List Byte
  | none => [0, 0, 0, 0, 0, 0, 0, 0, 0, 0, 0]
  | some f =>
    [1, byte f.tag, byte f.order.role.code, byte f.order.kind.code, byte f.fault.code, flagByte f.order.subject.isSome,
      byte (f.order.subject.getD 0)] ++ be4 f.lineTime

/-! ### Result codes (spec/10 R198, spec/11 section 11.2) -/

inductive Result
  | ok | badArg | noRoom | notFound | inUse | wrongMode | badState | badChallenge | badChecksum | tooLate | full | blocked
  deriving DecidableEq, Repr

def Result.code : Result → Nat
  | .ok => 0 | .badArg => 1 | .noRoom => 2 | .notFound => 3 | .inUse => 4 | .wrongMode => 5 | .badState => 6
  | .badChallenge => 7 | .badChecksum => 8 | .tooLate => 9 | .full => 10 | .blocked => 11

/-- An ANSWER frame of the part (spec/11, section 11.2). -/
def answerFrame (address : Nat) (kind number : Byte) (r : Result) (data : List Byte) : Frame :=
  ⟨byte address, byte Config.ownAddress, kindAnswer, kind :: number :: byte r.code :: data⟩

/-- The HALT frame (spec/07 R147, spec/08 R180). -/
def haltFrame : Frame := ⟨0, byte Config.ownAddress, kindHalt, []⟩

/-- A HELLO frame of the part; its addresses are free values (log 6). -/
def helloFrame (heard : Nat) (answer : Bool) : Frame :=
  ⟨Config.helloDestination, Config.helloSource, kindHello, [byte heard, flagByte answer]⟩

end Sys2Proof.Machine
end

