-- ==== Sys2Proof/Machine/Ops.lean ====
section
/-! DEFINITION. The named operations the blocks share: counters, ports and their transmit side, notices, roles and routes, tags, lifts, piles, positions, Idle frames. -/

namespace Sys2Proof.Machine

/-! ### Counters (spec/00, Counters: they saturate) -/

/-- One more, up to a largest value. -/
def saturate (largest n : Nat) : Nat := min (n + 1) largest

/-- One more on a counter of largest value 65,535. -/
def bump (n : Nat) : Nat := saturate Config.counterMax n

/-! ### Ports -/

/-- The port's state. -/
def Coordinator.link (s : Coordinator) : Port → Link
  | .west => s.west
  | .east => s.east

/-- The part with one port changed. -/
def Coordinator.modLink (s : Coordinator) (p : Port) (f : Link → Link) : Coordinator :=
  match p with
  | .west => { s with west := f s.west }
  | .east => { s with east := f s.east }

/-- The port carries traffic (spec/09 R184). -/
def Link.isUp (l : Link) : Bool := l.state == .up

/-- The own-frame queue takes n more frames: the port is UP and the queue holds few enough (spec/08 R179, spec/09 R190). -/
def Link.roomFor (l : Link) (n : Nat) : Bool := l.isUp && decide (l.own.length + n ≤ Config.ownQueue)

/-- The front of the forwarded queue is sent, and the burst count becomes 0 (R181 cases 2 and 4). -/
def Link.sendForward (l : Link) : Link :=
  match l.forward with
  | f :: rest => { l with forward := rest, burst := 0, sending := some ⟨f.frame, false⟩ }
  | [] => l

/-- The front of the own-frame queue is sent; the burst count rises while forwarded frames wait (R181 case 3). -/
def Link.sendOwn (l : Link) : Link :=
  match l.own with
  | f :: rest => { l with own := rest, burst := if l.forward.isEmpty then l.burst else l.burst + 1, sending := some f }
  | [] => l

/-- The transmit arbiter: a port that is UP and sends nothing takes the next frame by the first case that applies (R181). -/
def Link.transmit (l : Link) : Link :=
  if l.isUp && l.sending.isNone then
    if l.halt then { l with halt := false, sending := some ⟨haltFrame, false⟩ }
    else if l.helloAnswer then { l with helloAnswer := false, sending := some ⟨helloFrame 2 true, false⟩ }
    else if !l.forward.isEmpty && decide (Config.burstLimit ≤ l.burst) then l.sendForward
    else if !l.own.isEmpty then l.sendOwn
    else l.sendForward
  else l

/-- A frame of the part is placed at the back of a port's own-frame queue; a free transmitter starts at once (R179, R181). -/
def Coordinator.placeOwn (s : Coordinator) (p : Port) (f : OwnFrame) : Coordinator :=
  s.modLink p fun l => ({ l with own := l.own ++ [f] }).transmit

/-- A frame of the part without a mark. -/
def Coordinator.place (s : Coordinator) (p : Port) (f : Frame) : Coordinator := s.placeOwn p ⟨f, false⟩

/-- One router counter of a receiving port changes (R182). -/
def Coordinator.countRouter (s : Coordinator) (p : Port) (f : RouterCounters → RouterCounters) : Coordinator :=
  s.modLink p fun l => { l with router := f l.router }

def RouterCounters.addBadCheck (c : RouterCounters) : RouterCounters := { c with badCheck := bump c.badCheck }
def RouterCounters.addFilter (c : RouterCounters) : RouterCounters := { c with filter := bump c.filter }
def RouterCounters.addNoRoute (c : RouterCounters) : RouterCounters := { c with noRoute := bump c.noRoute }
def RouterCounters.addQueueFull (c : RouterCounters) : RouterCounters := { c with queueFull := bump c.queueFull }
def RouterCounters.addConsumed (c : RouterCounters) : RouterCounters := { c with consumed := bump c.consumed }
def RouterCounters.addForwarded (c : RouterCounters) : RouterCounters := { c with forwarded := bump c.forwarded }

/-! ### Notices (spec/10) -/

/-- A cause is set: it joins the pending set, and sets the due mark where it joins and is in the mask (R203). -/
def Notices.set (n : Notices) (c : Cause) : Notices :=
  if c.isIn n.pending then n
  else { n with pending := n.pending ||| c.bit, due := n.due || c.isIn n.mask }

def Coordinator.setCause (s : Coordinator) (c : Cause) : Coordinator := { s with notices := s.notices.set c }

/-- The payload of a NOTICE: the listed causes, the line time, and the ATTENTION record where STATION is listed (R204; spec/11 section 11.3). -/
def noticePayload (n : Notices) (lineTime : Nat) : List Byte :=
  causeField (n.pending &&& n.mask) ++ be4 lineTime ++
    (if Cause.station.isIn (n.pending &&& n.mask) then
      (match n.attention with
        | some a => [byte a.role.code, a.code, byte a.count]
        | none => [])
    else [])

/-- A due NOTICE is placed when the hold-off has run out, the WEST port is UP and its own-frame queue has room (R204). -/
def Coordinator.placeNotice (s : Coordinator) : Coordinator :=
  if s.notices.due && decide (s.notices.holdOff ≤ s.notices.since) && s.west.roomFor 1 then
    let t := { s with notices := { s.notices with due := false, since := 0 } }
    t.place .west ⟨byte s.roles.cell, byte Config.ownAddress, kindNotice, noticePayload s.notices s.lineTime⟩
  else s

/-! ### Roles and routes (spec/08) -/

/-- The address a role holds. -/
def RoleTable.get (t : RoleTable) : Role → Option Nat
  | .cell => some t.cell
  | .turner => t.turner | .lifter => t.lifter | .jogger => t.jogger | .gauge => t.gauge
  | .press => t.press | .rotator => t.rotator | .outfeed => t.outfeed

/-- The table with one role's setting replaced; CELL is never unassigned (R176, R177). -/
def RoleTable.assign (t : RoleTable) (r : Role) (a : Option Nat) : RoleTable :=
  match r with
  | .cell => { t with cell := a.getD t.cell }
  | .turner => { t with turner := a } | .lifter => { t with lifter := a } | .jogger => { t with jogger := a }
  | .gauge => { t with gauge := a } | .press => { t with press := a } | .rotator => { t with rotator := a }
  | .outfeed => { t with outfeed := a }

/-- The role an address holds, if any. -/
def RoleTable.roleOf (t : RoleTable) (a : Nat) : Option Role := Role.all.find? fun r => t.get r == some a

/-- The port of a role's segment (spec/00, Segments; R103). -/
def Role.segment : Role → Port
  | .cell | .turner | .lifter | .jogger => .west
  | .gauge | .press | .rotator | .outfeed => .east

/-- The port behind which an address lies, by the Forwarding Table (R168). -/
def Coordinator.portOf (s : Coordinator) (a : Nat) : Option Port :=
  match s.routes[a]? with
  | some .west => some .west
  | some .east => some .east
  | _ => none

/-! ### Tags (spec/05) -/

/-- The order a tag has PENDING. -/
def Tag.pendingOrder : Tag → Option Order
  | .pending r _ => some r.order
  | _ => none

/-- The record of a tag that is not FREE. -/
def Tag.record : Tag → Option OrderRecord
  | .free => none
  | .pending r _ => some r
  | .quarantined r _ _ => some r

/-- All orders PENDING, in tag order. -/
def Coordinator.pendingOrders (s : Coordinator) : List Order := s.tags.toList.filterMap Tag.pendingOrder

/-- The station has an order PENDING (R103). -/
def Coordinator.busy (s : Coordinator) (r : Role) : Bool := s.pendingOrders.any fun o => o.role == r

/-- An order whose subject is the lift is PENDING. -/
def Coordinator.liftBusy (s : Coordinator) (id : Nat) : Bool := s.pendingOrders.any fun o => o.lift == some id

/-- A Knife Cut is PENDING. -/
def Coordinator.knifePending (s : Coordinator) : Bool := s.pendingOrders.any fun o => o.kind == .knifeCut

/-- A hydraulic station's pressure order is PENDING. -/
def Coordinator.pressurePending (s : Coordinator) (h : Hydraulic) : Bool := s.pendingOrders.any fun o => o.hydraulic == some h

/-- The orders of the Cutter Sequencer: recovery and step orders (spec/04 R74). -/
def Order.ofCutter (o : Order) : Bool :=
  match o.kind with
  | .gaugeMove | .gaugeHome | .clampDown | .knifeCut | .clampUp | .rotate => true
  | _ => false

/-- The recovery orders: Gauge Home and the Clamp Up without subject (spec/04 R94). -/
def Order.isRecovery (o : Order) : Bool :=
  match o with
  | .gaugeHome => true
  | .clampUp none => true
  | _ => false

def Coordinator.freeTags (s : Coordinator) : Nat := s.tags.toList.countP fun t => t.code == 0
def Coordinator.pendingTags (s : Coordinator) : Nat := s.tags.toList.countP fun t => t.code == 1
def Coordinator.quarantinedTags (s : Coordinator) : Nat := s.tags.toList.countP fun t => t.code == 2

/-- A tag takes a new state. -/
def Coordinator.setTag (s : Coordinator) (t : Fin 32) (x : Tag) : Coordinator := { s with tags := s.tags.set t x }

/-- A tag PENDING or QUARANTINED has a record naming the role (R177, R178). -/
def Coordinator.roleInUse (s : Coordinator) (r : Role) : Bool :=
  s.tags.toList.any fun t => match t.record with | some rec => rec.order.role == r | none => false

/-! ### Programs as the lifts read them (spec/01 R17) -/

def SlotBody.header : SlotBody → Option Header
  | .empty => none
  | .loading h _ => some h
  | .ready h _ _ => some h

/-- The checked steps of a READY slot. -/
def SlotBody.steps : SlotBody → List Step
  | .ready _ _ ss => ss
  | _ => []

/-- What slot number n holds. -/
def Coordinator.slotBody (s : Coordinator) (n : Nat) : SlotBody :=
  match s.slots[n]? with
  | some x => x.body
  | none => .empty

def Coordinator.stepsOf (s : Coordinator) (l : Lift) : List Step := (s.slotBody l.slot).steps

/-- The step the lift is at; none when its program is finished. -/
def Coordinator.currentStep (s : Coordinator) (l : Lift) : Option Step := (s.stepsOf l)[l.stepIndex]?

def Coordinator.entryOf (s : Coordinator) (l : Lift) : Angle := (((s.slotBody l.slot).header).map Header.orientation).getD .a0
def Coordinator.jogClassOf (s : Coordinator) (l : Lift) : Nat := (((s.slotBody l.slot).header).map Header.jogClass).getD 0
def Coordinator.skewLimitOf (s : Coordinator) (l : Lift) : Nat := (((s.slotBody l.slot).header).map Header.skewLimit).getD 0
def Coordinator.stepCountOf (s : Coordinator) (l : Lift) : Nat := (((s.slotBody l.slot).header).map Header.stepCount).getD 0

/-- One slot changes. -/
def Coordinator.modSlot (s : Coordinator) (n : Nat) (f : Slot → Slot) : Coordinator :=
  match s.slots[n]? with
  | some x => { s with slots := s.slots.setIfInBounds n (f x) }
  | none => s

/-! ### Lifts and positions (spec/02) -/

/-- The live record of a lift id. -/
def Coordinator.lift? (s : Coordinator) (id : Nat) : Option Lift := s.lifts.find? fun l => l.id == id

/-- The records with one lift's record changed. -/
def mapLift (id : Nat) (f : Lift → Lift) (ls : List Lift) : List Lift := ls.map fun l => if l.id == id then f l else l

def Coordinator.modLift (s : Coordinator) (id : Nat) (f : Lift → Lift) : Coordinator := { s with lifts := mapLift id f s.lifts }

/-- The next position along the line; a lift at OUTFEED or NONE has no handover. -/
def Position.next : Position → Option Position
  | .lifter => some .jogger
  | .jogger => some .cutter
  | .cutter => some .outfeed
  | .none | .outfeed => none

/-- The position just before in the chain (R24). -/
def Position.before : Position → Position
  | .jogger => .lifter
  | .cutter => .jogger
  | .outfeed => .cutter
  | .none | .lifter => .none

/-- The station that receives a lift into the position (R23). -/
def Position.receiver : Position → Option Role
  | .jogger => some .jogger
  | .cutter => some .rotator
  | .outfeed => some .outfeed
  | .none | .lifter => .none

/-- The station that passes a lift out of the position (R23). -/
def Position.passer : Position → Option Role
  | .lifter => some .lifter
  | .jogger => some .jogger
  | .cutter => some .rotator
  | .none | .outfeed => .none

/-- The station sent a Clear for the position (R23). -/
def Position.clearer : Position → Option Role
  | .lifter => some .lifter
  | .jogger => some .jogger
  | .cutter => some .rotator
  | .outfeed => some .outfeed
  | .none => .none

/-- The end of its handover that a lift with a reserved destination holds RESERVED: the destination before Receive DONE, the source after it (R24). -/
def Lift.reservedEnd (l : Lift) : Option Position :=
  match l.dest with
  | none => none
  | some d => if l.position == d then some d.before else some d

/-- The entry of the position table (R24), read from the lift records (log 18). -/
def Coordinator.posEntry (s : Coordinator) (p : Position) : PosEntry :=
  match s.lifts.find? fun l => l.position == p with
  | some l => .standing l.id
  | none =>
    match s.lifts.find? fun l => l.reservedEnd == some p with
    | some l => .reserved l.id
    | none => .free

/-- The lift that has arrived at CUTTER: its position is CUTTER and no handover into CUTTER is open (spec/04 R75, R96). -/
def Lift.atCutter (l : Lift) : Bool := l.position == .cutter && l.dest != some .cutter

def Coordinator.cutterLift (s : Coordinator) : Option Lift := s.lifts.find? Lift.atCutter

/-- The lift WORKING at CUTTER (spec/04 R74). -/
def Coordinator.workingAtCutter (s : Coordinator) : Option Lift := s.lifts.find? fun l => l.atCutter && l.state == .working

/-- A lift WORKING, PASSING or CLEARING becomes HELD with the cause and sets LIFT_HELD; one already HELD keeps its cause (R32, R33). -/
def Coordinator.hold (s : Coordinator) (id : Nat) (c : HoldCause) : Coordinator :=
  match s.lift? id with
  | some l =>
    match l.state with
    | .working | .passing | .clearing => (s.modLift id fun l => { l with state := .held c }).setCause .liftHeld
    | .waiting | .ready | .held _ => s
  | none => s

/-- A lift's record leaves the Lift Table and the Line Order, its slot's use count falls, and LIFT_DONE is set (R36, R41, R42; spec/01 R2). -/
def Coordinator.removeLift (s : Coordinator) (id : Nat) : Coordinator :=
  match s.lift? id with
  | some l =>
    let t := s.modSlot l.slot fun x => { x with useCount := x.useCount - 1 }
    ({ t with lifts := t.lifts.filter fun x => x.id != id }).setCause .liftDone
  | none => s

/-! ### Piles (spec/03) -/

def Coordinator.modPile (s : Coordinator) (id : Nat) (f : Pile → Pile) : Coordinator :=
  { s with piles := s.piles.map fun p => if p.id == id then f p else p }

/-- The pile holds the turner (R49). -/
def Pile.holdsTurner (p : Pile) : Bool :=
  match p.state with
  | .turning | .turned | .moving => true
  | _ => false

/-- The pile holds the lifter platform (R49). -/
def Pile.holdsPlatform (p : Pile) : Bool :=
  match p.state with
  | .moving | .feeding | .empty | .short => true
  | _ => false

def Coordinator.pileIn (s : Coordinator) (st : PileState) : Option Pile := s.piles.find? fun p => p.state == st
def Coordinator.turnerHeld (s : Coordinator) : Bool := s.piles.any Pile.holdsTurner
def Coordinator.platformHeld (s : Coordinator) : Bool := s.piles.any Pile.holdsPlatform

/-! ### Idle frames (spec/08 R179, spec/03 section 3.4) -/

def Infeed.waiting (f : Infeed) : Role → Option WaitingIdle
  | .turner => f.turnerIdle
  | .lifter => f.lifterIdle
  | _ => none

def Infeed.setWaiting (f : Infeed) (r : Role) (w : Option WaitingIdle) : Infeed :=
  match r with
  | .turner => { f with turnerIdle := w }
  | .lifter => { f with lifterIdle := w }
  | _ => f

/-- An ORDER frame of kind Idle. -/
def idleFrame (address : Nat) (r : IdleReason) : Frame := ⟨byte address, byte Config.ownAddress, kindOrder, idlePayload r⟩

/-- An Idle is decided for a calling station: it replaces the reason of one waiting, or is placed, or waits for room, or is not sent where the station has no route to a port that is UP (R179). -/
def Coordinator.idle (s : Coordinator) (station : Role) (reason : IdleReason) : Coordinator :=
  match s.infeed.waiting station with
  | some w => { s with infeed := s.infeed.setWaiting station (some { w with reason := reason }) }
  | none =>
    match s.roles.get station with
    | none => s
    | some a =>
      match s.portOf a with
      | none => s
      | some p =>
        if !(s.link p).isUp then s
        else if (s.link p).roomFor 1 then s.place p (idleFrame a reason)
        else { s with infeed := s.infeed.setWaiting station (some ⟨reason, p, a⟩) }

/-- A waiting Idle of one station is placed if its port has room. -/
def Coordinator.placeIdle (s : Coordinator) (station : Role) : Coordinator :=
  match s.infeed.waiting station with
  | some w =>
    if (s.link w.port).roomFor 1 then
      ({ s with infeed := s.infeed.setWaiting station none }).place w.port (idleFrame w.address w.reason)
    else s
  | none => s

/-- Waiting Idles are placed as room allows, the TURNER's before the LIFTER's (R179, R181). -/
def Coordinator.placeIdles (s : Coordinator) : Coordinator := (s.placeIdle .turner).placeIdle .lifter

/-- Waiting Idles of a port that leaves UP are discarded, unsent (R179). -/
def Infeed.discardFor (f : Infeed) (p : Port) : Infeed :=
  { f with
    turnerIdle := f.turnerIdle.filter fun w => w.port != p
    lifterIdle := f.lifterIdle.filter fun w => w.port != p }

end Sys2Proof.Machine
end

