-- ==== Sys2Proof/Machine/Cutter.lean ====
section
/-! DEFINITION. The Cutter Sequencer: unit states, steps and cuts, take-up, recovery (spec/04). -/

namespace Sys2Proof.Machine

def Coordinator.modCutter (s : Coordinator) (f : Cutter → Cutter) : Coordinator := { s with cutter := f s.cutter }

/-! ### Recovery and unit states (R70 to R73, R93) -/

/-- The recovery stage becomes CLAMP: a recovery order in flight is overtaken (R93), and a lift READY at CUTTER becomes WORKING there (R84). -/
def Coordinator.startRecovery (s : Coordinator) : Coordinator :=
  { s with
    cutter := { s.cutter with recovery := .clamp, overtaken := s.cutter.overtaken || s.pendingOrders.any Order.isRecovery }
    lifts := s.lifts.map fun l => if l.state == .ready && l.position == .cutter then { l with state := .working } else l }

/-- The unit states an order concerns become UNKNOWN when it ends without DONE (R72). -/
def Cutter.lose (c : Cutter) (o : Order) : Cutter :=
  match o.role, o.kind with
  | .gauge, _ => { c with gauge := .unknown }
  | .press, .clampDown => { c with clamp := .unknown }
  | .press, _ => { c with clamp := .unknown, knife := .unknown }
  | .rotator, _ => { c with rotator := .unknown }
  | _, _ => c

/-- An order to GAUGE, PRESS or ROTATOR. -/
def Order.toCutterUnit (o : Order) : Bool :=
  match o.role with
  | .gauge | .press | .rotator => true
  | _ => false

/-- An order that ends without DONE: its unit states are lost and the recovery stage becomes CLAMP (R72). -/
def Coordinator.loseUnits (s : Coordinator) (o : Order) : Coordinator :=
  if o.toCutterUnit then (s.modCutter fun c => c.lose o).startRecovery else s

/-- The unit states a DONE report on a PENDING tag sets (R71). -/
def Cutter.learn (c : Cutter) (o : Order) : Cutter :=
  match o with
  | .gaugeMove _ t => { c with gauge := .known t }
  | .gaugeHome => { c with gauge := .known Config.gaugeMax }
  | .clampDown _ _ => { c with clamp := .down }
  | .knifeCut _ rel => { c with knife := .top, clamp := if rel then .up else c.clamp }
  | .clampUp _ => { c with clamp := .up, knife := .top }
  | .rotate _ _ => { c with rotator := .ready }
  | .receive _ r _ | .pass _ r _ | .clear _ r => if r = .rotator then { c with rotator := .ready } else c
  | _ => c

/-- The spacing intervals a DONE report on a PENDING tag starts (R85). -/
def Spacing.start (x : Spacing) (o : Order) : Spacing :=
  match o with
  | .gaugeMove _ _ | .gaugeHome => { x with gauge := some 0 }
  | .clampDown _ _ => { x with clampDown := some 0 }
  | .knifeCut _ rel => { x with knifeCut := some 0, knifeRelease := if rel then some 0 else x.knifeRelease }
  | .clampUp _ => { x with clampUp := some 0 }
  | .rotate _ _ => { x with rotate := some 0 }
  | _ => x

/-! ### Spacing tests (R85, R86) -/

/-- An interval has run out since its start event; one whose start event is not recorded counts as run out. -/
def ranOut (elapsed : Option Nat) (interval : Nat) : Bool :=
  match elapsed with
  | none => true
  | some e => decide (interval ≤ e)

/-- S0, S4 and S6, which end at gauge orders. -/
def Coordinator.gaugeSpaced (s : Coordinator) : Bool :=
  ranOut s.cutter.spacing.clampUp s.timing[0] && ranOut s.cutter.spacing.knifeRelease s.timing[4] &&
    ranOut s.cutter.spacing.rotate s.timing[6]

/-- The S7 entry that applies to the next Knife Cut of the lift: S7s within one strip run, S7l otherwise (R86). -/
def Coordinator.knifeEntry (s : Coordinator) (l : Lift) : Fin 21 :=
  match s.currentStep l with
  | some (.strip _ _ _ _ _) => if s.cutter.lastKnife = some (l.id, l.stepIndex) then 7 else 8
  | _ => 8

/-! ### Steps and cuts (R75 to R77, R84) -/

/-- The lift enters the step at its step index (R75). -/
def Coordinator.enterStep (s : Coordinator) (id : Nat) : Coordinator :=
  match s.lift? id with
  | none => s
  | some l =>
    let t := s.modCutter fun c => { c with cutNumber := 0 }
    match s.currentStep l with
    | some (.strip _ _ n _ _) =>
      match l.chop with
      | some (i, k) =>
        if i = l.stepIndex then t.modLift id fun x => { x with runRemaining := min n k, chop := none }
        else t.modLift id fun x => { x with runRemaining := n }
      | none => t.modLift id fun x => { x with runRemaining := n }
    | _ => t.modLift id fun x => { x with runRemaining := 0 }

/-- A lift arrives at CUTTER: the cut stage becomes NONE, and it enters the step at its step index (R75). -/
def Coordinator.arrive (s : Coordinator) (id : Nat) : Coordinator :=
  (s.modCutter fun c => { c with stage := .none, cutNumber := 0 }).enterStep id

/-- A lift WORKING with its program finished becomes READY, or stays WORKING while the recovery stage is not CLEAR (R84). -/
def Coordinator.readyIfRecovered (s : Coordinator) (id : Nat) : Coordinator :=
  if s.cutter.recovery = .clear then
    s.modLift id fun l => if l.state == .working then { l with state := .ready } else l
  else s

/-- A step is complete: the step index rises, and the lift enters the next step or has finished its program (R84). -/
def Coordinator.completeStep (s : Coordinator) (id : Nat) : Coordinator :=
  match s.lift? id with
  | none => s
  | some l =>
    let t := s.modLift id fun x => { x with stepIndex := x.stepIndex + 1 }
    if l.stepIndex + 1 < s.stepCountOf l then t.enterStep id
    else (t.modLift id fun x => { x with runRemaining := 0 }).readyIfRecovered id

/-- A cut is complete: the cut stage becomes NONE, and the next cut of the run is in line or the step is complete (R84). -/
def Coordinator.completeCut (s : Coordinator) (id : Nat) : Coordinator :=
  match s.lift? id with
  | none => s
  | some l =>
    let t := s.modCutter fun c => { c with stage := .none }
    match s.currentStep l with
    | some (.strip _ _ _ _ _) =>
      if 0 < l.runRemaining then t.modCutter fun c => { c with cutNumber := c.cutNumber + 1 }
      else t.completeStep id
    | _ => t.completeStep id

/-- The offset that applies at an orientation, absent offsets counting as 0 (R76). -/
def Lift.offset (l : Lift) : Int :=
  let dx := (l.measured.map Measured.dx).getD 0
  let dy := (l.measured.map Measured.dy).getD 0
  match l.orientation.getD .a0 with
  | .a0 => dx
  | .a90 => dy
  | .a180 => -dx
  | .a270 => -dy

/-- The program position of the cut to take up: a CUT step's position, or start − k·pitch for cut k of a STRIP step (R5, R76). -/
def Step.positionOf (st : Step) (k : Nat) : Int :=
  match st with
  | .cut p _ _ => p
  | .strip start pitch _ _ _ => (start : Int) - (k : Int) * (pitch : Int)
  | _ => 0

/-- The gauge target of a cut (R76). -/
def gaugeTarget (l : Lift) (st : Step) (k : Nat) : Int := st.positionOf k + l.offset

/-- CLAMP if the gauge stands KNOWN at exactly the target, SET otherwise (R77, R95). -/
def Cutter.stageFor (c : Cutter) (target : Nat) : CutStage := if c.gauge = .known target then .clamp else .set

/-- A cut is taken up: the lift is HELD with RANGE if the target is out of range, and otherwise the cut is in hand and counts as ordered (R77). -/
def Coordinator.takeUp (s : Coordinator) (l : Lift) (st : Step) : Coordinator :=
  let g := gaugeTarget l st s.cutter.cutNumber
  if (Config.gaugeMin : Int) ≤ g ∧ g ≤ (Config.gaugeMax : Int) then
    let t := s.modCutter fun c => { c with cutTarget := some g.toNat, stage := c.stageFor g.toNat }
    match st with
    | .strip _ _ _ _ _ => t.modLift l.id fun x => { x with runRemaining := x.runRemaining - 1 }
    | _ => t
  else s.hold l.id .range

/-- What the Sequencer does by itself for the lift WORKING at CUTTER in RUN with none of its orders PENDING: hold it at a PAUSE step (R90), complete a STRIP step with run remaining 0 (R84), take up the next cut (R77).
Steps completed in a row are bounded by the fuel, the most steps a program has. -/
def Coordinator.advance : Nat → Coordinator → Coordinator
  | 0, s => s
  | fuel + 1, s =>
    if s.sup.mode != .run || s.pendingOrders.any Order.ofCutter then s
    else
      match s.workingAtCutter with
      | none => s
      | some l =>
        match s.currentStep l with
        | none => s
        | some .pause => s.hold l.id .pause
        | some st =>
          if s.cutter.recovery != .clear || s.cutter.stage != .none then s
          else
            match st with
            | .cut _ _ _ => s.takeUp l st
            | .strip _ _ _ _ _ =>
              if 0 < l.runRemaining then s.takeUp l st else (s.completeStep l.id).advance fuel
            | .rotate _ => s
            | .pause => s

/-- The recovery stage becomes CLEAR, and the cut in hand is settled in the same event; a lift kept WORKING with its program finished becomes READY (R95). -/
def Coordinator.clearRecovery (s : Coordinator) : Coordinator :=
  let t := s.modCutter fun c => { c with recovery := .clear }
  match s.cutterLift with
  | none => t
  | some l =>
    let u :=
      match s.cutter.stage with
      | .none => t
      | .set | .clamp | .cut =>
        t.modCutter fun c => { c with stage := match c.cutTarget with | some g => c.stageFor g | none => .set }
      | .release => t.completeCut l.id
    match u.lift? l.id with
    | none => u
    | some l' => if u.stepCountOf l' ≤ l'.stepIndex then u.readyIfRecovered l.id else u

/-- A recovery order's DONE advances the recovery stage unless the stage was set to CLAMP again meanwhile (R93). -/
def Coordinator.advanceRecovery (s : Coordinator) (o : Order) : Coordinator :=
  if s.cutter.overtaken then s
  else
    match o, s.cutter.recovery with
    | .clampUp none, .clamp => s.modCutter fun c => { c with recovery := .home }
    | .gaugeHome, .home =>
      if s.cutter.rotator = .unknown then s.modCutter fun c => { c with recovery := .rotator } else s.clearRecovery
    | _, _ => s

/-- The effect on the lift's cut and steps of a DONE report for one of the Sequencer's orders (R71, R78, R82, R84, R89, R93). -/
def Coordinator.cutterDone (s : Coordinator) (o : Order) : Coordinator :=
  match o with
  | .gaugeMove _ _ => s.modCutter fun c => if c.stage = .set then { c with stage := .clamp } else c
  | .clampDown _ _ => s.modCutter fun c => if c.stage = .clamp then { c with stage := .cut } else c
  | .knifeCut id rel =>
    let t := s.modLift id fun l => { l with cutsMade := bump l.cutsMade }
    if rel then t.completeCut id else t.modCutter fun c => { c with stage := .release }
  | .clampUp (some id) => s.completeCut id
  | .clampUp none => s.advanceRecovery o
  | .gaugeHome => s.advanceRecovery o
  | .rotate id a =>
    (s.modLift id fun l => { l with orientation := some ((l.orientation.getD .a0).add a) }).completeStep id
  | _ => s

/-- READY from the ROTATOR while none of its orders is PENDING: the rotator is READY, and a recovery that waited for it is CLEAR (R73, R93). -/
def Coordinator.rotatorReady (s : Coordinator) : Coordinator :=
  if s.busy .rotator then s
  else
    let t := s.modCutter fun c => { c with rotator := .ready }
    if s.cutter.recovery = .rotator then t.clearRecovery else t

/-- All four unit states become UNKNOWN and the recovery stage CLAMP (R73, R100). -/
def Coordinator.loseAllUnits (s : Coordinator) : Coordinator :=
  (s.modCutter fun c => { c with clamp := .unknown, knife := .unknown, gauge := .unknown, rotator := .unknown }).startRecovery

/-- Lift Resume settles the cut in hand (R92): REPEAT. -/
def Coordinator.repeatCut (s : Coordinator) (l : Lift) : Coordinator :=
  let t := s.modCutter fun c => { c with stage := .none }
  match s.currentStep l with
  | some (.strip _ _ _ _ _) => t.modLift l.id fun x => { x with runRemaining := x.runRemaining + 1 }
  | _ => t

/-- Lift Resume settles the cut in hand (R92): SKIP of the cut whose target was out of range. -/
def Coordinator.skipRange (s : Coordinator) (l : Lift) : Coordinator :=
  match s.currentStep l with
  | some (.strip _ _ _ _ _) => (s.modLift l.id fun x => { x with runRemaining := x.runRemaining - 1 }).completeCut l.id
  | _ => s.completeCut l.id

end Sys2Proof.Machine
end

