-- ==== Sys2Proof/Machine/Issue.lean ====
section
/-! DEFINITION. Which orders the issuers want, and the issue request list of the Order Table (spec/02, spec/03, spec/04, spec/05). -/

namespace Sys2Proof.Machine

/-! ### What each issuer wants (its own conditions; the Table's are added when a request is served, log 14) -/

/-- CURTAIN does not stop an order to this station: it stops PRESS and ROTATOR orders only (R26, R42, R88). -/
def Coordinator.curtainAllows (s : Coordinator) (r : Role) : Bool := !s.inputs.curtain || !(r == .press || r == .rotator)

/-- The ready mark of a station that receives lifts (R25). -/
def Tracker.mark (t : Tracker) : Role → Bool
  | .jogger => t.jogger
  | .rotator => t.rotator
  | .outfeed => t.outfeed
  | _ => false

/-- Present Pile and Accept Pile together: the conditions of R57 except the mode, which wanted tests. -/
def Coordinator.moveWanted (s : Coordinator) : Option IssueRequest :=
  match s.pileIn .turned with
  | some p =>
    if !s.platformHeld && s.infeed.turnerMark && !s.busy .turner && !s.busy .lifter && decide (2 ≤ s.freeTags)
    then some ⟨.presentPile p.id, some (.acceptPile p.id)⟩ else none
  | none => none

/-- Turn Pile for the frontmost DECLARED pile: the conditions of R55 except the mode, the grant and the FREE tag. -/
def Coordinator.turnWanted (s : Coordinator) : Option IssueRequest :=
  match s.pileIn .declared with
  | some p =>
    if s.infeed.turnerMark && !s.turnerHeld && !s.busy .turner then some ⟨.turnPile p.id p.flip, none⟩ else none
  | none => none

/-- Pass and Receive of one lift's handover: the conditions of R26 except the mode; the orders as R23 gives them. -/
def Coordinator.passWanted (s : Coordinator) (l : Lift) : Option IssueRequest :=
  match l.state, l.position.next, l.position.passer with
  | .ready, some d, some src =>
    match d.receiver with
    | some dst =>
      if s.posEntry d == .free && s.tracker.mark dst && !s.busy src && !s.busy dst && decide (2 ≤ s.freeTags) &&
          s.curtainAllows src && s.curtainAllows dst
      then some ⟨.pass l.id src dst, some (.receive l.id dst (if dst == .rotator then s.entryOf l else .a0))⟩ else none
    | none => none
  | _, _, _ => none

/-- The checks of R59: the reason of the first that fails, or the lift to take. -/
def Coordinator.callCheck (s : Coordinator) : Except IdleReason Lift :=
  if s.sup.mode != .run then .error .stopped
  else
    match s.piles.find? fun p => p.position == .lifter && (p.state == .feeding || p.state == .empty) with
    | none => .error .noPile
    | some p =>
      if p.state == .empty then .error .budgetZero
      else
        match s.lifts.find? fun l => l.state == .working && l.position == .lifter && !s.liftBusy l.id with
        | some l => .ok l
        | none =>
          match s.lifts.find? fun l => l.state == .waiting with
          | none => .error .noLift
          | some l => if s.posEntry .lifter != .free || s.busy .lifter then .error .positionBusy else .ok l

/-- Take Lift, once the LIFTER has been given the grant and the checks of R59 pass again (R60, R61). -/
def Coordinator.takeWanted (s : Coordinator) : Option IssueRequest :=
  if s.arbiter.grant == some (.lifter, .granted) && s.infeed.lifterCall then
    match s.callCheck with
    | .ok l => some ⟨.takeLift l.id l.targetHeight, none⟩
    | .error _ => none
  else none

/-- Align for a lift WORKING at JOGGER (R66). -/
def Coordinator.alignWanted (s : Coordinator) (l : Lift) : Option IssueRequest :=
  if l.state == .working && l.position == .jogger && !s.liftBusy l.id && !s.busy .jogger
  then some ⟨.align l.id (s.jogClassOf l), none⟩ else none

/-- Discharge for a lift WORKING at OUTFEED (R35). -/
def Coordinator.dischargeWanted (s : Coordinator) (l : Lift) : Option IssueRequest :=
  if l.state == .working && l.position == .outfeed && !s.busy .outfeed then some ⟨.discharge l.id, none⟩ else none

/-- Clear Platform for a pile EMPTY or SHORT on the platform (R65). -/
def Coordinator.clearPlatformWanted (s : Coordinator) : Option IssueRequest :=
  match s.piles.find? fun p => p.clear == some .notIssued with
  | some p =>
    if s.posEntry .lifter == .free && !s.busy .lifter then some ⟨.clearPlatform p.id, none⟩ else none
  | none => none

/-- The source end of a lift's handover: its position before Receive DONE, the position before the destination after it (R24). -/
def Lift.source (l : Lift) : Position :=
  match l.dest with
  | some d => if l.position == d then d.before else l.position
  | none => l.position

/-- The Clears of a CLEARING lift still to be issued, as stations (R42). -/
def Lift.clears (l : Lift) : List Role :=
  match l.dest, l.pair with
  | none, _ => l.position.clearer.toList
  | some d, some (a, b) =>
    (if a == .notIssued then l.source.clearer.toList else []) ++ (if b == .notIssued then d.clearer.toList else [])
  | some _, none => []

/-- The Clear of a CLEARING lift to one station (R42). -/
def Coordinator.clearWanted (s : Coordinator) (r : Role) (l : Lift) : Option IssueRequest :=
  if l.state == .clearing && l.clears.contains r && !s.busy r && s.curtainAllows r then some ⟨.clear l.id r, none⟩ else none

/-- The clamp is UP and the knife TOP. -/
def Cutter.raised (c : Cutter) : Bool := c.clamp == .up && c.knife == .top

/-- Release-after flag and clamp class of a cutting step (R4). -/
def Step.cutting : Step → Option (Nat × Bool)
  | .cut _ c r => some (c, r)
  | .strip _ _ _ c r => some (c, r)
  | _ => none

/-- Gauge Move at stage SET (R79) and Gauge Home at recovery stage HOME (R94). -/
def Coordinator.gaugeWanted (s : Coordinator) (l : Lift) : List IssueRequest :=
  if s.cutter.raised && !s.busy .gauge && s.gaugeSpaced then
    match s.cutter.recovery, s.cutter.stage, s.cutter.cutTarget with
    | .clear, .set, some g => [⟨.gaugeMove l.id g, none⟩]
    | .home, _, _ => [⟨.gaugeHome, none⟩]
    | _, _, _ => []
  else []

/-- The press order that is due in every respect except the grant and a FREE tag: Clamp Down (R80), Knife Cut (R81), Clamp Up (R83) or the recovery Clamp Up (R94). -/
def Coordinator.pressWanted (s : Coordinator) (l : Lift) : List IssueRequest :=
  if s.curtainAllows .press && !s.busy .press then
    match s.cutter.recovery, s.cutter.stage, (s.currentStep l).bind Step.cutting with
    | .clear, .clamp, some (k, _) =>
      if s.cutter.cutTarget.map Gauge.known == some s.cutter.gauge && !s.busy .gauge && s.cutter.raised &&
          ranOut s.cutter.spacing.gauge s.timing[1]
      then [⟨.clampDown l.id k, none⟩] else []
    | .clear, .cut, some (_, rel) =>
      if s.cutter.clamp == .down && s.cutter.knife == .top && !s.busy .gauge &&
          ranOut s.cutter.spacing.clampDown s.timing[2] && ranOut s.cutter.spacing.knifeIssue s.timing[s.knifeEntry l]
      then [⟨.knifeCut l.id rel, none⟩] else []
    | .clear, .release, _ => if ranOut s.cutter.spacing.knifeCut s.timing[3] then [⟨.clampUp (some l.id), none⟩] else []
    | .clamp, _, _ => if ranOut s.cutter.spacing.knifeCut s.timing[3] then [⟨.clampUp none, none⟩] else []
    | _, _, _ => []
  else []

/-- Rotate for a ROTATE step (R89). -/
def Coordinator.rotateWanted (s : Coordinator) (l : Lift) : List IssueRequest :=
  match s.currentStep l with
  | some (.rotate a) =>
    if s.cutter.recovery == .clear && s.cutter.stage == .none && s.cutter.raised && s.cutter.rotator == .ready &&
        s.curtainAllows .rotator && ranOut s.cutter.spacing.clampUp s.timing[5] && !s.busy .rotator
    then [⟨.rotate l.id a, none⟩] else []
  | _ => []

/-- The lift the Cutter Sequencer may issue an order for: WORKING at CUTTER, with none of the Sequencer's orders PENDING (R74). -/
def Coordinator.cutterSubject (s : Coordinator) : Option Lift :=
  if s.pendingOrders.any Order.ofCutter then none else s.workingAtCutter

/-- The handovers out of one position. -/
def Coordinator.passesFrom (s : Coordinator) (p : Position) : List IssueRequest :=
  (s.lifts.filter fun l => l.position == p).filterMap s.passWanted

/-- Every order an issuer wants now, by the stations' roles and then by kind code (R102). All need the mode RUN. -/
def Coordinator.wanted (s : Coordinator) : List IssueRequest :=
  if s.sup.mode != .run then []
  else
    let cutter := s.cutterSubject.toList
    s.moveWanted.toList ++ s.turnWanted.toList ++
    (s.passesFrom .lifter ++ s.takeWanted.toList ++ s.lifts.filterMap (s.clearWanted .lifter) ++ s.clearPlatformWanted.toList) ++
    (s.passesFrom .jogger ++ s.lifts.filterMap s.alignWanted ++ s.lifts.filterMap (s.clearWanted .jogger)) ++
    cutter.flatMap s.gaugeWanted ++ cutter.flatMap s.pressWanted ++
    (cutter.flatMap s.rotateWanted ++ s.passesFrom .cutter ++ s.lifts.filterMap (s.clearWanted .rotator)) ++
    (s.lifts.filterMap s.dischargeWanted ++ s.lifts.filterMap (s.clearWanted .outfeed))

/-- The issue request list after the issuers have withdrawn what they no longer want and added what they newly want (R102). -/
def Coordinator.refreshList (s : Coordinator) : Coordinator :=
  let w := s.wanted
  let old := s.orders.requests
  { s with orders := { s.orders with requests := (old.filter fun r => w.contains r) ++ (w.filter fun r => !old.contains r) } }

/-! ### Serving the list (R103, R104) -/

/-- The role's station can be reached: assigned, and routed to the port of its segment, which is UP (R103). -/
def Coordinator.reachable (s : Coordinator) (r : Role) : Bool :=
  match s.roles.get r with
  | some a => s.portOf a == some r.segment && (s.link r.segment).isUp
  | none => false

/-- A pressure order's station holds the grant and none of its pressure orders is PENDING (R103, R129). -/
def Coordinator.granted (s : Coordinator) (o : Order) : Bool :=
  match o.hydraulic with
  | some h => s.arbiter.grant == some (h, .granted) || s.arbiter.grant == some (h, .kept)
  | none => true

/-- The conditions of R103 on one order, room and tags apart. -/
def Coordinator.carriable (s : Coordinator) (o : Order) : Bool :=
  s.reachable o.role && !s.busy o.role && s.granted o

/-- The conditions of R103 on a request. -/
def Coordinator.canServe (s : Coordinator) (r : IssueRequest) : Bool :=
  s.sup.mode == .run && s.carriable r.first &&
  match r.second with
  | none => decide (1 ≤ s.freeTags) && (s.link r.first.role.segment).roomFor 1
  | some o =>
    s.carriable o && decide (2 ≤ s.freeTags) &&
    (if o.role.segment = r.first.role.segment then (s.link o.role.segment).roomFor 2
      else (s.link r.first.role.segment).roomFor 1 && (s.link o.role.segment).roomFor 1)

/-- The tag to allocate: the first FREE one counting upwards from the tag after the mark, going on from 31 to 0 (R104). -/
def Coordinator.nextTag (s : Coordinator) : Option (Fin 32) :=
  ((List.range 32).map fun i => Fin.ofNat 32 (s.orders.mark + 1 + i)).find? fun t => s.tags[t] == .free

/-- The ready mark of the order's station is cleared (R25, R53, R104). -/
def Coordinator.clearMark (s : Coordinator) (r : Role) : Coordinator :=
  match r with
  | .turner => { s with infeed := { s.infeed with turnerMark := false, turnerCall := false } }
  | .jogger => { s with tracker := { s.tracker with jogger := false } }
  | .rotator => { s with tracker := { s.tracker with rotator := false } }
  | .outfeed => { s with tracker := { s.tracker with outfeed := false } }
  | _ => s

/-- The element of the pair progress that a Clear to the station concerns: the first is the source's (R42). -/
def Lift.setClear (l : Lift) (r : Role) (x : Progress) : Lift :=
  match l.pair with
  | some (a, b) => { l with pair := if l.source.clearer = some r then some (x, b) else some (a, x) }
  | none => l

/-- What the issuer does when its order is issued: R26 (a handover), R55 and R57 (piles), R61 (Take Lift), R65 (Clear Platform), R42 (a Clear), R82 (Knife Cut). -/
def Coordinator.told (s : Coordinator) (o : Order) : Coordinator :=
  match o with
  | .pass id _ _ =>
    s.modLift id fun l => { l with dest := l.position.next, pair := some (.inFlight, .inFlight), state := .passing }
  | .takeLift id _ =>
    let t := s.modLift id fun l => { l with state := .working, position := .lifter }
    { t with infeed := { t.infeed with lifterCall := false } }
  | .turnPile id _ => s.modPile id fun p => { p with state := .turning, position := .turner }
  | .presentPile id => s.modPile id fun p => { p with state := .moving, move := some (.inFlight, .inFlight) }
  | .clearPlatform id => s.modPile id fun p => { p with clear := some .inFlight }
  | .clear id r => s.modLift id fun l => l.setClear r .inFlight
  | .knifeCut id _ =>
    s.modCutter fun c =>
      { c with
        spacing := { c.spacing with knifeIssue := some 0 }
        lastKnife := (s.lift? id).map fun l => (id, l.stepIndex) }
  | _ => s

/-- The Arbiter and the Cutter Sequencer at the issue of a pressure order: phase BUSY, and for the PRESS one more in the hold-over count (R129, R87). -/
def Coordinator.driven (s : Coordinator) (o : Order) : Coordinator :=
  match o.hydraulic with
  | some h =>
    let t := { s with arbiter := { s.arbiter with grant := some (h, .busy) } }
    if h = .press then t.modCutter fun c => { c with holdOver := c.holdOver + 1 } else t
  | none => s

/-- The ORDER frame to a station (R104; spec/11 section 11.4). -/
def orderFrame (address tag : Nat) (o : Order) : Frame := ⟨byte address, byte Config.ownAddress, kindOrder, orderPayload tag o⟩

/-- One order is issued (R104). -/
def Coordinator.issue (s : Coordinator) (o : Order) : Coordinator :=
  match s.nextTag, s.roles.get o.role with
  | some t, some a =>
    let rec1 : OrderRecord := ⟨o, o.role.segment⟩
    let s1 := s.setTag t (.pending rec1 s.timing[o.deadlineEntry])
    let s2 := { s1 with orders := { s1.orders with mark := t.val } }
    let s3 := s2.place o.role.segment (orderFrame a t.val o)
    let s4 := ((s3.clearMark o.role).told o).driven o
    if o.isRecovery then s4.modCutter fun c => { c with overtaken := false } else s4
  | _, _ => s

/-- One request of the list is served if it can be and is still wanted (R103, R104). -/
def Coordinator.serveOne (s : Coordinator) (r : IssueRequest) : Coordinator :=
  if s.orders.requests.contains r && s.canServe r && s.wanted.contains r then
    let t := s.issue r.first
    let u := match r.second with | some o => t.issue o | none => t
    { u with orders := { u.orders with requests := u.orders.requests.erase r } }
  else s

/-- The list is served in its order (R103). -/
def Coordinator.serve (s : Coordinator) : Coordinator := s.orders.requests.foldl Coordinator.serveOne s

end Sys2Proof.Machine
end

