-- ==== Sys2Proof/Machine/Arbiter.lean ====
section
/-! DEFINITION. The Pressure Arbiter: request flags, grant decisions, hold-over and release (spec/06). -/

namespace Sys2Proof.Machine

def Coordinator.modArbiter (s : Coordinator) (f : Arbiter → Arbiter) : Coordinator := { s with arbiter := f s.arbiter }

def RequestFlags.get (f : RequestFlags) : Hydraulic → Bool
  | .press => f.press
  | .turner => f.turner
  | .lifter => f.lifter

def RequestFlags.clear (f : RequestFlags) : Hydraulic → RequestFlags
  | .press => { f with press := false }
  | .turner => { f with turner := false }
  | .lifter => { f with lifter := false }

/-- The station holds the grant with no order of it issued: a request raised for it leaves its flag clear (R127). -/
def Arbiter.holdsIdle (a : Arbiter) (h : Hydraulic) : Bool := a.grant == some (h, .granted) || a.grant == some (h, .kept)

/-- An order that the request would have issued uses the station's pressure. -/
def IssueRequest.presses (r : IssueRequest) (h : Hydraulic) : Bool := r.first.hydraulic == some h

/-- The sequencers raise and withdraw their requests (R55, R60, R87, R127): the PRESS's and the TURNER's follow the order wanted, the LIFTER's its outstanding call.
The flag of a station that holds the grant GRANTED or KEPT is clear. -/
def Coordinator.raiseRequests (s : Coordinator) : Coordinator :=
  let w := s.wanted
  s.modArbiter fun a =>
    { a with
      flags :=
        { press := w.any (IssueRequest.presses · .press) && !a.holdsIdle .press
          turner := w.any (IssueRequest.presses · .turner) && !a.holdsIdle .turner
          lifter := s.sup.mode == .run && a.flags.lifter && !a.holdsIdle .lifter } }

/-- The PRESS holds the grant, in any phase. -/
def Arbiter.pressHolds (a : Arbiter) : Bool :=
  match a.grant with
  | some (.press, _) => true
  | _ => false

/-- The grant is released: no holder, the hold-over count 0 after the PRESS, the yield mark set by a cap release (R134). The decision follows in the same event. -/
def Coordinator.release (s : Coordinator) (byCap : Bool) : Coordinator :=
  let t := s.modArbiter fun a => { a with grant := none, yield := a.yield || byCap }
  if s.arbiter.pressHolds then t.modCutter fun c => { c with holdOver := 0 } else t

/-- The first station in the priority order whose flag is set, the PRESS passed over where the yield mark says so (R128, R135). -/
def Arbiter.choice (a : Arbiter) : Option Hydraulic :=
  a.priority.find? fun h => a.flags.get h && !(h == .press && a.yield && (a.flags.turner || a.flags.lifter))

/-- A grant decision (R128): the chosen station becomes the holder in phase GRANTED, and its flag and the yield mark are cleared (R135). -/
def Coordinator.grantDecision (s : Coordinator) : Coordinator :=
  if s.arbiter.grant.isNone && s.inputs.pressOk && s.sup.mode == .run then
    match s.arbiter.choice with
    | some h => s.modArbiter fun a => { a with grant := some (h, .granted), flags := a.flags.clear h, yield := false }
    | none => s
  else s

/-- The Cutter Sequencer's next-order indication: its next order is a press order for the same lift (R87; log 36). -/
def Coordinator.indication (s : Coordinator) : Bool :=
  s.workingAtCutter.isSome && s.cutter.recovery == .clear &&
    (s.cutter.stage == .cut || s.cutter.stage == .release || s.cutter.stage == .clamp)

/-- The conditions of R132 other than the cap. -/
def Coordinator.mayKeep (s : Coordinator) : Bool :=
  s.arbiter.holdOver && s.sup.mode == .run && !s.inputs.curtain && s.indication

/-- The holder's pressure order has ended: the grant is kept by hold-over or released (R131, R132). -/
def Coordinator.endGrant (s : Coordinator) : Coordinator :=
  match s.arbiter.grant with
  | some (h, .busy) =>
    if s.pressurePending h then s
    else if h == .press && s.mayKeep then
      if s.cutter.holdOver < s.arbiter.cap then
        s.modArbiter fun a => { a with grant := some (.press, .kept), flags := a.flags.clear .press }
      else s.release true
    else s.release false
  | _ => s

/-- The Cutter Sequencer's claim under KEPT stands: RUN, CURTAIN clear, its lift WORKING at CUTTER and the recovery stage CLEAR (R133). -/
def Coordinator.claimStands (s : Coordinator) : Bool :=
  s.sup.mode == .run && !s.inputs.curtain && s.workingAtCutter.isSome && s.cutter.recovery == .clear

/-- The holder's sequencer withdraws: a grant without its order is given up (R55, R87, R127, R133, R137). -/
def Coordinator.withdraw (s : Coordinator) : Coordinator :=
  match s.arbiter.grant with
  | some (.press, .kept) => if s.claimStands then s else s.release false
  | some (.press, .granted) => if s.wanted.any (IssueRequest.presses · .press) then s else s.release false
  | some (.turner, .granted) => if s.wanted.any (IssueRequest.presses · .turner) then s else s.release false
  | some (.lifter, .granted) => if s.infeed.lifterCall then s else s.release false
  | _ => s

/-- The LIFTER holds the grant and its order is not issued: the checks of R59 are made again, and a failing one answers the call Idle and releases the grant (R60). -/
def Coordinator.recheckLifter (s : Coordinator) : Coordinator :=
  if s.arbiter.grant == some (.lifter, .granted) && s.infeed.lifterCall then
    match s.callCheck with
    | .ok _ => s
    | .error r =>
      let t := { s with infeed := { s.infeed with lifterCall := false } }
      (t.idle .lifter r).release false
  else s

/-- Grant decisions until a holder stands or nobody can be granted: a second one follows where the LIFTER gives the grant up at once (R60, R134). -/
def Coordinator.arbitrate (s : Coordinator) : Coordinator :=
  s.recheckLifter.grantDecision.recheckLifter.grantDecision

end Sys2Proof.Machine
end

