-- ==== Sys2Proof/Machine/Settle.lean ====
section
/-! DEFINITION. What follows in the same event once a command's own effects are taken: the blocks test their conditions again (R26, R57, R74, R102, R103, R128; log 13). -/

namespace Sys2Proof.Machine

/-- Outside RUN the outstanding calls are answered Idle with STOPPED, the TURNER's first (R54, R60). -/
def Coordinator.answerStopped (s : Coordinator) : Coordinator :=
  if s.sup.mode == .run then s
  else
    let t := if s.infeed.turnerCall then ({ s with infeed := { s.infeed with turnerCall := false } }).idle .turner .stopped else s
    if t.infeed.lifterCall then ({ t with infeed := { t.infeed with lifterCall := false } }).idle .lifter .stopped else t

/-- One round: the Cutter Sequencer moves on, calls are answered, requests are raised, the grant ends or is given up and is decided, the issue list is brought up to date and served. -/
def Coordinator.round (s : Coordinator) : Coordinator :=
  (s.advance 48).answerStopped.raiseRequests.endGrant.withdraw.arbitrate.refreshList.serve

/-- Two rounds: the second withdraws what the orders issued in the first have made undue (log 13). -/
def Coordinator.settle (s : Coordinator) : Coordinator := s.round.round

/-- The end of an event that may have changed a condition: waiting Idles take room first, the blocks settle, and a NOTICE that has become due is placed (R179, R204; log 15). -/
def Coordinator.finish (s : Coordinator) : Coordinator := s.placeIdles.settle.placeNotice

end Sys2Proof.Machine
end

