-- ==== Sys2Proof/Machine/Ends.lean ====
section
/-! DEFINITION. How orders end and what their owners do: DONE, FAULT, deadline, quarantine (spec/02, spec/03, spec/04, spec/05). -/

namespace Sys2Proof.Machine

/-- The ways an order ends without DONE (spec/05, chapter opening). -/
inductive Ending
  | fault (kind : FaultKind)
  | deadline
  | stopped
  | link
  deriving DecidableEq, Repr

/-- The hold cause an ending gives (R30, R31, R32, R91). -/
def Ending.holdCause (e : Ending) (o : Order) : HoldCause :=
  match e, o.kind with
  | .stopped, _ => .stopped
  | .link, _ => .link
  | .fault _, .pass => .handover
  | .fault _, .receive => .handover
  | .deadline, .pass => .handover
  | .deadline, .receive => .handover
  | .fault k, ok => .opFault ok k
  | .deadline, _ => .deadline

/-! ### Handover (R28 to R31) -/

/-- The progress of the order of a handover, Pass first. -/
def Lift.setPair (l : Lift) (second : Bool) (x : Progress) : Lift :=
  match l.pair with
  | some (a, b) => { l with pair := if second then some (a, x) else some (x, b) }
  | none => l

/-- Both orders of the pair have ended with DONE. -/
def Lift.pairDone (l : Lift) : Bool := l.pair == some (.done, .done)

/-- The handover is complete when a PASSING lift has both orders DONE: it becomes WORKING at the destination (R28, R29). -/
def Coordinator.completeHandover (s : Coordinator) (id : Nat) : Coordinator :=
  match s.lift? id with
  | some l =>
    if l.state == .passing && l.pairDone then
      let t := s.modLift id fun x => { x with dest := none, pair := none, state := .working }
      if l.position = .cutter then t.arrive id else t
    else s
  | none => s

/-- Receive DONE: the position becomes the destination, and at CUTTER the orientation the entry orientation (R28, R30). -/
def Coordinator.receiveDone (s : Coordinator) (id : Nat) : Coordinator :=
  match s.lift? id with
  | some l =>
    match l.dest with
    | some d =>
      let entry := s.entryOf l
      (s.modLift id fun x =>
        { x.setPair true .done with position := d, orientation := if d = .cutter then some entry else x.orientation }).completeHandover id
    | none => s
  | none => s

/-- Pass DONE (R28). -/
def Coordinator.passDone (s : Coordinator) (id : Nat) : Coordinator :=
  (s.modLift id fun x => x.setPair false .done).completeHandover id

/-! ### Clear (R42) -/

/-- The cancel is complete: the lift's record goes, and at CUTTER the cut stage and number are reset (R42, R75). -/
def Coordinator.completeClear (s : Coordinator) (id : Nat) : Coordinator :=
  let t := if s.cutterLift.map Lift.id = some id then s.modCutter fun c => { c with stage := .none, cutNumber := 0 } else s
  t.removeLift id

/-- Clear DONE: the cancel is complete when each Clear sent has ended with DONE (R42). -/
def Coordinator.clearDone (s : Coordinator) (id : Nat) (r : Role) : Coordinator :=
  let t := s.modLift id fun x => x.setClear r .done
  match t.lift? id with
  | some l =>
    if l.state == .clearing && (l.pair.isNone || l.pairDone) then t.completeClear id else t
  | none => t

/-! ### Piles (R56, R58, R65) -/

/-- The outcome of the move once both orders have ended (R58). -/
def Pile.settleMove (p : Pile) : Pile :=
  match p.move with
  | some (present, accept) =>
    if present = .inFlight ∨ accept = .inFlight then p
    else if accept = .done then { p with state := .feeding, position := .lifter, move := none }
    else { p with state := .turned, position := .turner, move := none }
  | none => p

def Pile.setPresent (p : Pile) (x : Progress) : Pile := { p with move := p.move.map fun m => (x, m.2) }
def Pile.setAccept (p : Pile) (x : Progress) : Pile := { p with move := p.move.map fun m => (m.1, x) }

/-! ### Take Lift and Align (R62, R63, R67) -/

/-- The budget of a FEEDING pile falls at a counted Take Lift DONE; at 0 the pile becomes EMPTY (R62). -/
def Pile.count (p : Pile) (height : Nat) : Pile :=
  let q := { p with remaining := p.remaining - 1, taken := p.taken + 1, heightLeft := some height }
  if q.remaining = 0 then { q with state := .empty, clear := some .notIssued } else q

/-- Take Lift DONE (R62). -/
def Coordinator.takeDone (s : Coordinator) (id height : Nat) : Coordinator :=
  let t := s.modLift id fun l => if l.state == .working then { l with state := .ready } else l
  match s.pileIn .feeding with
  | some p =>
    let u := t.modPile p.id fun q => q.count height
    if (p.count height).state = .empty then u.setCause .pileEmpty else u
  | none => t

/-- Take Lift FAULT with PILE_SHORT (R63). -/
def Coordinator.takeShort (s : Coordinator) (id : Nat) : Coordinator :=
  let t := s.modLift id fun l => { l with state := .waiting, position := .none }
  match s.pileIn .feeding with
  | some p => (t.modPile p.id fun q => { q with state := .short, clear := some .notIssued }).setCause .pileShort
  | none => t

/-- Check 1 of R67: the reported values lie within their ranges. -/
def Measured.inRange (m : Measured) : Bool :=
  decide (50 ≤ m.height ∧ m.height ≤ 1650 ∧ -500 ≤ m.dx ∧ m.dx ≤ 500 ∧ -500 ≤ m.dy ∧ m.dy ≤ 500 ∧ m.skew ≤ 500)

/-- Align DONE (R67). -/
def Coordinator.alignDone (s : Coordinator) (id : Nat) (m : Measured) : Coordinator :=
  match s.lift? id with
  | some l =>
    if !m.inRange then s.hold id .range
    else if s.skewLimitOf l < m.skew then (s.modLift id fun x => { x with measured := some m }).hold id .skew
    else s.modLift id fun x => { x with measured := some m, state := if x.state == .working then .ready else x.state }
  | none => s

/-- The measurement an Align DONE carries (spec/11, section 11.5). -/
def measuredOf : List Byte → Option Measured
  | [h1, h0, x1, x0, y1, y0, s1, s0] => some ⟨nat2 h1 h0, int2 x1 x0, int2 y1 y0, nat2 s1 s0⟩
  | _ => none

/-- The pile height left a Take Lift DONE carries (spec/11, section 11.5). -/
def heightOf : List Byte → Nat
  | [h1, h0] => nat2 h1 h0
  | _ => 0

/-! ### The end of an order (R107, R108, R111, R114, R115) -/

/-- An order ends with DONE: unit states and spacing (R71, R85), then its owner's effects. -/
def Coordinator.orderDone (s : Coordinator) (o : Order) (data : List Byte) : Coordinator :=
  let t := s.modCutter fun c => { c.learn o with spacing := c.spacing.start o }
  match o with
  | .pass id _ _ => t.passDone id
  | .receive id _ _ => t.receiveDone id
  | .discharge id => t.removeLift id
  | .clear id r => t.clearDone id r
  | .takeLift id _ => t.takeDone id (heightOf data)
  | .align id _ => match measuredOf data with | some m => t.alignDone id m | none => t
  | .turnPile id _ => t.modPile id fun p => { p with state := .turned, position := .turner }
  | .presentPile id => t.modPile id fun p => (p.setPresent .done).settleMove
  | .acceptPile id => t.modPile id fun p => ({ p.setAccept .done with position := .lifter }).settleMove
  | .clearPlatform id => { t with piles := t.piles.filter fun p => p.id != id }
  | .gaugeMove _ _ | .gaugeHome | .clampDown _ _ | .knifeCut _ _ | .clampUp _ | .rotate _ _ => t.cutterDone o

/-- An order ends without DONE: its owner's effects (R30 to R33, R43, R56, R58, R63 to R65, R91), then the cutter units it concerns (R72). -/
def Coordinator.orderLost (s : Coordinator) (o : Order) (e : Ending) : Coordinator :=
  let c := e.holdCause o
  let t :=
    match o with
    | .pass id _ _ => (s.modLift id fun l => l.setPair false .ended).hold id c
    | .receive id _ _ => (s.modLift id fun l => l.setPair true .ended).hold id c
    | .clear id r => (s.modLift id fun l => l.setClear r .ended).hold id c
    | .takeLift id _ => if e = Ending.fault .pileShort then s.takeShort id else s.hold id c
    | .knifeCut id _ => (s.modLift id fun l => { l with uncertain := true }).hold id c
    | .align id _ | .discharge id | .gaugeMove id _ | .clampDown id _ | .rotate id _ => s.hold id c
    | .clampUp (some id) => s.hold id c
    | .clampUp none | .gaugeHome => match s.workingAtCutter with | some l => s.hold l.id c | none => s
    | .turnPile id _ => s.modPile id fun p => { p with state := .declared, position := .none }
    | .presentPile id => s.modPile id fun p => (p.setPresent .ended).settleMove
    | .acceptPile id => s.modPile id fun p => (p.setAccept .ended).settleMove
    | .clearPlatform id => s.modPile id fun p => { p with clear := some .failed }
  t.loseUnits o

/-- A fault is recorded: the First-Fault Record if it is empty, the fault count, the FAULT cause (R117). -/
def Coordinator.recordFault (s : Coordinator) (t : Fin 32) (o : Order) (k : FaultKind) : Coordinator :=
  let new : FaultRecord := ⟨t.val, o, k, s.lineTime⟩
  ({ s with
      orders :=
        { s.orders with
          firstFault := s.orders.firstFault <|> some new
          faultCount := saturate Config.smallCounterMax s.orders.faultCount } }).setCause .fault

/-- A stale report: the stale count and the STALE cause (R110). -/
def Coordinator.stale (s : Coordinator) : Coordinator :=
  ({ s with orders := { s.orders with staleCount := bump s.orders.staleCount } }).setCause .stale

/-- A PENDING tag is quarantined with the quarantine time as it stands (R113). -/
def Coordinator.quarantine (s : Coordinator) (t : Fin 32) (r : OrderRecord) (c : QuarantineCause) : Coordinator :=
  s.setTag t (.quarantined r c s.timing[20])

/-- One PENDING tag is quarantined and its end handed to its owner. -/
def Coordinator.abandon (c : QuarantineCause) (e : Ending) (which : OrderRecord → Bool) (s : Coordinator) (t : Fin 32) : Coordinator :=
  match s.tags[t] with
  | .pending r _ => if which r then (s.quarantine t r c).orderLost r.order e else s
  | _ => s

/-- Every tag number, tag 0 first. -/
def allTags : List (Fin 32) := List.finRange 32

/-- SAFE entry quarantines every PENDING tag (R114). -/
def Coordinator.abandonAll (s : Coordinator) : Coordinator :=
  allTags.foldl (Coordinator.abandon .stopped .stopped fun _ => true) s

/-- The loss of a port quarantines every PENDING tag whose record names it (R115). -/
def Coordinator.abandonPort (s : Coordinator) (p : Port) : Coordinator :=
  allTags.foldl (Coordinator.abandon .link .link fun r => r.port == p) s

end Sys2Proof.Machine
end

