-- ==== Sys2Proof/Machine/Supervise.lean ====
section
/-! DEFINITION. The Line Supervisor: modes, SAFE and HOLD entry, the watchdog, the challenge (spec/07). -/

namespace Sys2Proof.Machine

def Coordinator.modSup (s : Coordinator) (f : Supervisor → Supervisor) : Coordinator := { s with sup := f s.sup }

/-- A change of mode sets the mode cause and MODE_CHANGE (R143). -/
def Coordinator.setMode (s : Coordinator) (m : Mode) (c : ModeCause) : Coordinator :=
  (s.modSup fun x => { x with mode := m, cause := c }).setCause .modeChange

/-! ### Leaving SETUP (R175) -/

/-- A forwarded frame that the end of the setup removes. -/
def ForwardedFrame.isManual (f : ForwardedFrame) : Bool := f.frame.kind == kindManual

/-- The filter drop count of a receiving port rises by the number of frames removed. -/
def RouterCounters.addFilters (c : RouterCounters) (n : Nat) : RouterCounters :=
  { c with filter := min (c.filter + n) Config.counterMax }

/-- A port's forwarded queue without its MANUAL frames; an emptied queue resets the burst count (R175, R181). -/
def Link.purge (l : Link) : Link :=
  let q := l.forward.filter fun f => !f.isManual
  { l with forward := q, burst := if q.isEmpty then 0 else l.burst }

/-- The MANUAL frames waiting in a port's forwarded queue that came from one port. -/
def Link.manualsFrom (l : Link) (p : Port) : Nat := l.forward.countP fun f => f.isManual && f.received == p

/-- The mode leaves SETUP: every MANUAL frame leaves both forwarded queues (R175). -/
def Coordinator.purgeManual (s : Coordinator) : Coordinator :=
  let fromWest := s.west.manualsFrom .west + s.east.manualsFrom .west
  let fromEast := s.west.manualsFrom .east + s.east.manualsFrom .east
  { s with
    west := { s.west.purge with router := s.west.router.addFilters fromWest }
    east := { s.east.purge with router := s.east.router.addFilters fromEast } }

/-! ### SAFE and HOLD (R144 to R149) -/

/-- The Arbiter's grant is revoked (R138). -/
def Coordinator.revoke (s : Coordinator) : Coordinator :=
  (s.modArbiter fun a => { a with grant := none, flags := ⟨false, false, false⟩, yield := false }).modCutter
    fun c => { c with holdOver := 0 }

/-- A port that is UP has a HALT to send before every frame waiting (R147, R180). -/
def Link.halted (l : Link) : Link := if l.isUp then ({ l with halt := true }).transmit else l

/-- An order to GAUGE, PRESS or ROTATOR PENDING at SAFE entry leaves clamp, knife and gauge UNKNOWN (R73). -/
def Coordinator.doubtUnits (s : Coordinator) (inFlight : Bool) : Coordinator :=
  if inFlight then (s.modCutter fun c => { c with clamp := .unknown, knife := .unknown, gauge := .unknown }).startRecovery else s

/-- SAFE entry in the order of R146; a SAFE cause taken in SAFE changes nothing (R149). -/
def Coordinator.enterSafe (s : Coordinator) (c : ModeCause) : Coordinator :=
  if s.sup.mode = .safe then s
  else
    let inFlight := s.pendingOrders.any Order.toCutterUnit
    let s1 := s.modSup fun x => { x with deferred := none }
    let s2 := s1.abandonAll.doubtUnits inFlight
    let s3 := s2.revoke
    let s4 := s3.modSup fun x => { x with running := false }
    let s5 := s4.setMode .safe c
    let s6 := s5.modSup fun x => { x with safeOutput := true }
    let s7 := { s6 with west := s6.west.halted, east := s6.east.halted }
    if s.sup.mode = .setup then s7.purgeManual else s7

/-- Entry to HOLD from RUN (R144). -/
def Coordinator.enterHold (s : Coordinator) (c : ModeCause) : Coordinator := s.setMode .hold c

/-- A cause for HOLD: it acts in RUN alone, and is deferred while a Knife Cut is PENDING (R143, R145). -/
def Coordinator.causeHold (s : Coordinator) (c : ModeCause) : Coordinator :=
  if s.sup.mode = .run then
    if s.knifePending then s.modSup fun x => { x with deferred := x.deferred <|> some c } else s.enterHold c
  else s

/-- A deferred hold takes effect once the Knife Cut has ended by a report (R145). -/
def Coordinator.settleDeferred (s : Coordinator) : Coordinator :=
  match s.sup.deferred with
  | some c => if s.knifePending then s else (s.modSup fun x => { x with deferred := none }).enterHold c
  | none => s

/-! ### Watchdog (R156 to R158) -/

/-- The period in ms: 20 ms doubled as many times as its code (R142). -/
def Supervisor.periodMs (x : Supervisor) : Nat := 20 * 2 ^ x.period.val

/-- The closed half of a WINDOW period (R156). -/
def Supervisor.inClosedHalf (x : Supervisor) : Bool := x.style == .window && decide (2 * x.elapsed < x.periodMs)

/-- A watchdog failure (R158). -/
def Coordinator.watchdogFailure (s : Coordinator) : Coordinator :=
  let n := min (s.sup.failures + 1) s.sup.escalation
  let t := (s.modSup fun x => { x with failures := n, elapsed := if x.running then 0 else x.elapsed }).setCause .supervision
  if s.sup.mode = .safe then t
  else if n = s.sup.escalation then t.enterSafe .watchdog
  else t.causeHold .watchdog

/-- A value 0–4,095 different from an old one, by a free choice among the 4,095 others (R157, R160; logs 4, 5). -/
def newCode (old choice : BitVec 12) : BitVec 12 := BitVec.ofNat 12 (old.toNat + 1 + choice.toNat % 4095)

/-- The new value of a code the part draws: any value where there is no old one. -/
def drawFrom (old : Option (BitVec 12)) (choice : BitVec 12) : BitVec 12 :=
  match old with
  | some x => newCode x choice
  | none => choice

end Sys2Proof.Machine
end

