-- ==== Sys2Proof/Machine/Reports.lean ====
section
/-! DEFINITION. Reports, deadlines and quarantine run-outs at the Order Table (spec/05). -/

namespace Sys2Proof.Machine

/-- The tag a report names, where there is one of that number (log 21). -/
def tagOf (b : Byte) : Option (Fin 32) := if h : b.toNat < 32 then some ⟨b.toNat, h⟩ else none

/-- A report matches an order record: its source holds the record's role now, and its echoed kind is the record's (R106). -/
def Coordinator.matches (s : Coordinator) (r : OrderRecord) (src : Nat) (kind : Byte) : Bool :=
  s.roles.get r.order.role == some src && kind == byte r.order.kind.code

/-- A matching DONE on a PENDING tag (R107). -/
def Coordinator.reportDone (s : Coordinator) (t : Fin 32) (o : Order) (data : List Byte) : Coordinator :=
  ((s.setTag t .free).orderDone o data).settleDeferred.finish

/-- A matching FAULT on a PENDING tag (R108). -/
def Coordinator.reportFault (s : Coordinator) (t : Fin 32) (o : Order) (k : FaultKind) : Coordinator :=
  (((s.setTag t .free).recordFault t o k).orderLost o (.fault k)).settleDeferred.finish

/-- A stale report taken: counted, STALE set, and a NOTICE placed that has become due (R110, R204). -/
def Coordinator.takeStale (s : Coordinator) : Coordinator := s.stale.placeNotice

/-- The Order Table takes a report whose payload is a report (R106 to R110). -/
def Coordinator.matchReport (s : Coordinator) (src : Nat) (t : Fin 32) (kind what : Byte) (rest : List Byte) : Coordinator :=
  match s.tags[t] with
  | .free => s.takeStale
  | .pending r _ =>
    if s.matches r src kind then
      if what = 1 then s.reportDone t r.order rest
      else if what = 2 then
        match rest.head?.bind fun f => FaultKind.ofCode f.toNat with
        | some k => s.reportFault t r.order k
        | none => s.takeStale
      else s.takeStale
    else s.takeStale
  | .quarantined r _ _ =>
    if s.matches r src kind then
      if what = 3 then (s.setTag t .free).finish else (s.setTag t .free).stale.finish
    else s.takeStale

/-- The Order Table takes a REPORT frame's payload; one that is no report is stale (R210). -/
def Coordinator.takeReport (s : Coordinator) (src : Nat) (payload : List Byte) : Coordinator :=
  if reportFits payload then
    match payload with
    | t :: kind :: what :: rest =>
      match tagOf t with
      | some t => s.matchReport src t kind what rest
      | none => s.takeStale
    | _ => s.takeStale
  else s.takeStale

/-- The deadline of a PENDING order passes (R111); for the PRESS the line goes to SAFE (R155). -/
def Coordinator.deadlinePasses (s : Coordinator) (t : Fin 32) : Coordinator :=
  match s.tags[t] with
  | .pending r _ =>
    let u := ((s.quarantine t r .deadline).recordFault t r.order .deadline).orderLost r.order .deadline
    let v := if r.order.role = .press then u.enterSafe .deadline else u
    v.finish
  | _ => s

/-- The quarantine timer of a tag runs out (R116). -/
def Coordinator.quarantineEnds (s : Coordinator) (t : Fin 32) : Coordinator :=
  match s.tags[t] with
  | .quarantined _ _ _ => (s.setTag t .free).finish
  | _ => s

end Sys2Proof.Machine
end

