-- ==== Sys2Proof/Machine/Ports.lean ====
section
/-! DEFINITION. The Link Ports: bring-up, HELLO, loss, retrain (spec/09). -/

namespace Sys2Proof.Machine

/-! ### Leaving and entering UP (R190, R191) -/

/-- The frame being sent, as a count. -/
def Link.inTransit (l : Link) : Nat := if l.sending.isSome then 1 else 0

/-- The port's own part of a loss: step 1 and 2 of R190. In a retrain of a port that is UP, HELLOs heard, bring-up elapsed and window elapsed keep their values, where R192 has the port's bring-up state reset and does not list it: DESIGN CHOICE, log 40. -/
def Link.lose (l : Link) (c : LossCause) : Link :=
  { l with
    state := .down
    retryDelay := Config.retryDelay
    badRun := 0
    retrain := false
    helloAnswer := false
    halt := false
    burst := 0
    own := []
    forward := []
    sending := none
    lastLoss := c
    counters :=
      { l.counters with
        losses := bump l.counters.losses
        queueDiscards := min (l.counters.queueDiscards + l.own.length + l.forward.length + l.inTransit) Config.counterMax } }

/-- The cutter is not at rest for a loss of the EAST port (R154). -/
def Coordinator.pressAtRisk (s : Coordinator) : Bool := s.cutter.clamp != .up || s.busy .press

/-- The Supervisor judges a loss against the state before the quarantine, `before` (R154). -/
def Coordinator.judgeLoss (s before : Coordinator) (p : Port) : Coordinator :=
  if p = .east ∧ before.pressAtRisk then s.enterSafe .link else s.causeHold .link

/-- What the Agent and the Infeed Sequencer held for a port that leaves UP: requests on WEST (R199), waiting Idles (R179). -/
def Coordinator.dropWaiting (s : Coordinator) (p : Port) : Coordinator :=
  { s with agent := if p = .west then [] else s.agent, infeed := s.infeed.discardFor p }

/-- The effects of R190 in their order: the port, the Order Table, the Supervisor, PORT_CHANGE. -/
def Coordinator.loseUp (s : Coordinator) (p : Port) (c : LossCause) : Coordinator :=
  let t := (s.modLink p fun l => l.lose c).dropWaiting p
  ((t.abandonPort p).judgeLoss s p).setCause .portChange

/-- A port leaves UP for DOWN (R190). -/
def Coordinator.leaveUp (s : Coordinator) (p : Port) (c : LossCause) : Coordinator := (s.loseUp p c).finish

/-- A port enters UP (R191). -/
def Link.rise (l : Link) : Link :=
  { l with
    state := .up
    badRun := 0
    burst := 0
    helloAnswer := false
    own := []
    forward := []
    sending := none
    counters := { l.counters with ups := bump l.counters.ups } }

def Coordinator.enterUp (s : Coordinator) (p : Port) : Coordinator := ((s.modLink p Link.rise).setCause .portChange).finish

/-! ### Bring-up (R185 to R188) -/

/-- DOWN to ALIGN: the staged rate and settings take effect (R185). -/
def Link.startAlign (l : Link) : Link :=
  { l with state := .align, rate := l.stagedRate, active := l.staged, bringUp := 0, window := 0, badRun := 0, retryDelay := 0 }

/-- A bring-up failure (R185, R187, R188, R193). -/
def Link.failBringUp (l : Link) : Link :=
  { l with
    state := .down
    retryDelay := Config.retryDelay
    sending := none
    counters := { l.counters with failures := bump l.counters.failures } }

/-- Entry to VERIFY: the first HELLO is sent (R187, R188). -/
def Link.startVerify (l : Link) : Link :=
  { l with state := .verify, window := 0, hellos := 0, sending := some ⟨helloFrame 0 false, false⟩ }

/-- A HELLO of VERIFY is sent (R188). -/
def Link.sendHello (l : Link) : Link :=
  if l.state = .verify then { l with sending := some ⟨helloFrame l.hellos false, false⟩ } else l

/-- A frame received in VERIFY that is no good HELLO (R188, R193). -/
def Link.discardEarly (l : Link) : Link :=
  { l with counters := { l.counters with earlyDiscards := bump l.counters.earlyDiscards } }

/-- A retrain of a port that is not UP: DOWN with the retry delay starting again, its counters untouched (R192). Of the bring-up state that R192 has reset and does not list, HELLOs heard becomes 0 and the two elapsed times keep their values: DESIGN CHOICE, log 40. -/
def Link.restart (l : Link) : Link :=
  { l with state := .down, retryDelay := Config.retryDelay, badRun := 0, hellos := 0, sending := none }

/-! ### Frames the port acts on itself (R188, R189) -/

/-- A good HELLO with its heard count and answer flag. -/
def Coordinator.takeHello (s : Coordinator) (p : Port) (heard : Nat) (answer : Bool) : Coordinator :=
  match (s.link p).state with
  | .verify =>
    let n := min ((s.link p).hellos + 1) 2
    let t := s.modLink p fun l => { l with hellos := n }
    if n = 2 ∧ heard = 2 then t.enterUp p else t
  | .up => if answer then s else s.modLink p fun l => ({ l with helloAnswer := true }).transmit
  | .down | .align | .lock => s

/-- A bad frame in UP: one more in the run, and at 16 the port leaves UP (R189). -/
def Coordinator.countBad (s : Coordinator) (p : Port) : Coordinator :=
  let n := (s.link p).badRun + 1
  if Config.badRunLimit ≤ n then (s.modLink p fun l => { l with badRun := n }).leaveUp p .badRun
  else s.modLink p fun l => { l with badRun := n }

/-- The port's loss on an event that R189 names, if it is UP. -/
def Coordinator.loseIfUp (s : Coordinator) (p : Port) (c : LossCause) : Coordinator :=
  if (s.link p).isUp then s.leaveUp p c else s

/-! ### The transmitter (R181) -/

/-- The frame being sent is the ANSWER that retrain pending names (R192). -/
def Link.endsRetrain (l : Link) : Bool :=
  l.retrain && (match l.sending with | some f => f.answerOfRetrain | none => false)

/-- The transmitter has sent its frame to its end and takes the next. -/
def Link.sent (l : Link) : Link := ({ l with sending := none }).transmit

end Sys2Proof.Machine
end

