-- ==== Sys2Proof/Machine/Programs.lean ====
section
/-! DEFINITION. What an answer carries, and the requests of the Program Store (spec/01). -/

namespace Sys2Proof.Machine

/-- What a request's owner answers: the result, the data, and whether retrain pending names this ANSWER (R192, R196). -/
structure Reply where
  result : Result
  data : List Byte
  mark : Bool
  deriving DecidableEq, Repr

/-- An answer with data. -/
def reply (r : Result) (data : List Byte) : Reply := ⟨r, data, false⟩

/-- An answer without data. -/
def refuse (r : Result) : Reply := ⟨r, [], false⟩

/-- Arguments of the wrong length (R208, R210). -/
def badLength (s : Coordinator) : Coordinator × Reply := (s, refuse .badArg)

def SlotBody.code : SlotBody → Nat
  | .empty => 0
  | .loading _ _ => 1
  | .ready _ _ _ => 2

/-- The slot a request names; its number is 0 to 15 (R1). -/
def Coordinator.slot? (s : Coordinator) (n : Byte) : Option Slot := s.slots[n.toNat]?

def Coordinator.setBody (s : Coordinator) (n : Byte) (b : SlotBody) : Coordinator :=
  s.modSlot n.toNat fun x => { x with body := b }

/-- Number of indices in the written set (R7). -/
def written (steps : List (Option Step)) : Nat := steps.countP Option.isSome

/-- The lowest index not in the written set; the step count when all are written (R9, R15). -/
def firstUnwritten (steps : List (Option Step)) : Nat := steps.findIdx Option.isNone

/-- The step's last cut lies at 2,500 units or more (R5). -/
def Step.lastCutFits : Step → Bool
  | .strip start pitch run _ _ => decide (Config.gaugeMin + (run - 1) * pitch ≤ start)
  | _ => true

/-- The program checksum over the stored records in step order (R10). -/
def checksumOf (steps : List Step) : Nat := (crc (steps.flatMap stepRecord)).toNat

/-- Program Open (R6). -/
def programOpen (s : Coordinator) (args : List Byte) : Coordinator × Reply :=
  match args with
  | [n, c, o1, o0, j, k1, k0, h1, h0] =>
    match s.slot? n, headerOf [c, o1, o0, j, k1, k0, h1, h0] with
    | some x, some h =>
      if x.body.code = 2 ∧ 0 < x.useCount then (s, refuse .inUse)
      else (s.setBody n (.loading h (List.replicate h.stepCount none)), reply .ok [n, byte x.body.code])
    | _, _ => (s, refuse .badArg)
  | _ => badLength s

/-- Step Write (R7). -/
def stepWrite (s : Coordinator) (args : List Byte) : Coordinator × Reply :=
  match args with
  | n :: i :: record =>
    if record.length ≠ 12 then badLength s
    else
      match s.slot? n with
      | none => (s, refuse .badArg)
      | some x =>
        match x.body with
        | .loading h steps =>
          if h.stepCount ≤ i.toNat then (s, refuse .badArg)
          else
            match stepOf record with
            | none => (s, refuse .badArg)
            | some st =>
              let steps' := steps.set i.toNat (some st)
              (s.setBody n (.loading h steps'), reply .ok [n, i, byte (written steps')])
        | _ => (s, refuse .badState)
  | _ => badLength s

/-- The checks of R9 on a load and the checksum declared for it: the body the slot takes and the answer (R9 to R11). -/
def closeLoad (n : Byte) (h : Header) (steps : List (Option Step)) (declared : Nat) : SlotBody × Reply :=
  if firstUnwritten steps < h.stepCount then (.empty, reply .notFound [byte (firstUnwritten steps)])
  else
    let ss := steps.filterMap id
    let bad := ss.findIdx fun st => !st.lastCutFits
    if bad < ss.length then (.empty, reply .badArg [byte bad])
    else if checksumOf ss ≠ declared then (.empty, reply .badChecksum (be2 (checksumOf ss)))
    else (.ready h declared ss, reply .ok (n :: be2 declared))

/-- Program Close (R8 to R11). -/
def programClose (s : Coordinator) (args : List Byte) : Coordinator × Reply :=
  match args with
  | [n, c1, c0] =>
    match s.slot? n with
    | none => (s, refuse .badArg)
    | some x =>
      match x.body with
      | .loading h steps =>
        let r := closeLoad n h steps (nat2 c1 c0)
        (s.setBody n r.1, r.2)
      | _ => (s, refuse .badState)
  | _ => badLength s

/-- Program Erase (R12). -/
def programErase (s : Coordinator) (args : List Byte) : Coordinator × Reply :=
  match args with
  | [n] =>
    match s.slot? n with
    | none => (s, refuse .badArg)
    | some x =>
      match x.body with
      | .empty => (s, refuse .notFound)
      | .loading _ _ => (s.setBody n .empty, reply .ok [1])
      | .ready _ _ _ => if 0 < x.useCount then (s, refuse .inUse) else (s.setBody n .empty, reply .ok [2])
  | _ => badLength s

/-- The HEADER form of Read Program (R15, R208). -/
def headerAnswer (x : Slot) : List Byte :=
  [byte x.body.code, byte x.useCount] ++
  match x.body with
  | .empty => []
  | .loading h steps => headerBytes h ++ [byte (written steps), byte (firstUnwritten steps)]
  | .ready h c _ => headerBytes h ++ be2 c

/-- The answer of Read Program to a step index (R16). -/
def stepAnswer (n i : Byte) (b : SlotBody) : Reply :=
  match b with
  | .empty => refuse .notFound
  | .loading h steps =>
    if h.stepCount ≤ i.toNat then refuse .badArg
    else match steps[i.toNat]? with
      | some (some st) => reply .ok (n :: i :: stepRecord st)
      | _ => refuse .notFound
  | .ready _ _ steps =>
    match steps[i.toNat]? with
    | some st => reply .ok (n :: i :: stepRecord st)
    | none => refuse .badArg

/-- Read Program (R14 to R16). -/
def readProgram (s : Coordinator) (args : List Byte) : Coordinator × Reply :=
  match args with
  | [n, i] =>
    match s.slot? n with
    | none => (s, refuse .badArg)
    | some x =>
      if i = 255 then (s, reply .ok (headerAnswer x))
      else if Config.stepsPerProgram ≤ i.toNat then (s, refuse .badArg)
      else (s, stepAnswer n i x.body)
  | _ => badLength s

end Sys2Proof.Machine
end

