-- ==== Sys2Proof/Machine/Lifts.lean ====
section
/-! DEFINITION. The requests of the Lift Tracker, the Infeed Sequencer and the Cutter Sequencer (spec/02, spec/03, spec/04). -/

namespace Sys2Proof.Machine

/-- A lift or pile id that can exist: 1 to 254 (R20, R48). -/
def idFits (b : Byte) : Bool := b != 0 && b != 255

/-! ### Lift Admit (R27) -/

/-- The record of a newly admitted lift (R20, R27). -/
def Lift.admitted (id slot height : Nat) : Lift where
  id := id
  slot := slot
  state := .waiting
  position := .none
  dest := none
  pair := none
  targetHeight := height
  measured := none
  orientation := none
  stepIndex := 0
  runRemaining := 0
  uncertain := false
  chop := none
  cutsMade := 0

/-- The target height of an admission: 0 or within 50–1,650 (R27). -/
def heightFits (n : Nat) : Bool := n == 0 || decide (50 ≤ n ∧ n ≤ 1650)

/-- Lift Admit (R27). -/
def liftAdmit (s : Coordinator) (args : List Byte) : Coordinator × Reply :=
  match args with
  | [i, n, h1, h0] =>
    match s.slot? n with
    | none => (s, refuse .badArg)
    | some x =>
      if !idFits i || !heightFits (nat2 h1 h0) then (s, refuse .badArg)
      else
        match x.body with
        | .ready h _ _ =>
          if (s.lift? i.toNat).isSome then (s, refuse .inUse)
          else if Config.liftRecords ≤ s.lifts.length then (s, refuse .noRoom)
          else
            let height := if nat2 h1 h0 = 0 then h.defaultHeight else nat2 h1 h0
            let t := s.modSlot n.toNat fun y => { y with useCount := y.useCount + 1 }
            ({ t with lifts := t.lifts ++ [Lift.admitted i.toNat n.toNat height] },
              reply .ok (i :: (be2 height ++ [byte (s.lifts.length + 1)])))
        | _ => (s, refuse .badState)
  | _ => badLength s

/-! ### Lift Cancel (R41, R42) -/

/-- A HELD lift begins CLEARING: both Clears of an interrupted handover are to be issued (R42, R43). -/
def Lift.startClearing (l : Lift) : Lift :=
  { l with state := .clearing, pair := l.dest.map fun _ => (.notIssued, .notIssued) }

/-- Lift Cancel (R41). -/
def liftCancel (s : Coordinator) (args : List Byte) : Coordinator × Reply :=
  match args with
  | [i] =>
    if !idFits i then (s, refuse .badArg)
    else
      match s.lift? i.toNat with
      | none => (s, refuse .notFound)
      | some l =>
        match l.state with
        | .waiting => (s.removeLift l.id, reply .ok [0])
        | .held _ =>
          if s.liftBusy l.id then (s, refuse .badState)
          else (s.modLift l.id Lift.startClearing, reply .ok [1])
        | _ => (s, refuse .badState)
  | _ => badLength s

/-! ### Lift Resume (R37 to R40, R92) -/

/-- The resume options (section 2.7; codes of spec/11). -/
inductive ResumeOption
  | none | source | dest | again | skip
  deriving DecidableEq, Repr

/-- The option of a code: NONE 0, SOURCE 1, DEST 2, REPEAT 3, SKIP 4. -/
def ResumeOption.ofCode : Nat → Option ResumeOption
  | 0 => some .none
  | 1 => some .source
  | 2 => some .dest
  | 3 => some .again
  | 4 => some .skip
  | _ => Option.none

/-- The options the record requires (R37). -/
def Lift.allowed (l : Lift) : List ResumeOption :=
  if l.dest.isSome then [.source, .dest]
  else if l.uncertain then [.again, .skip]
  else if l.state = .held .range ∧ l.position = .cutter then [.none, .skip]
  else [.none]

/-- A lift at CUTTER that has finished its program becomes READY there once recovery is CLEAR (R84; log 38). -/
def Coordinator.finishIfDone (s : Coordinator) (id : Nat) : Coordinator :=
  match s.lift? id with
  | some l => if l.atCutter && decide (s.stepCountOf l ≤ l.stepIndex) then s.readyIfRecovered id else s
  | none => s

/-- SOURCE: the lift stands at the source of its handover and is READY there (R38, R84). -/
def Coordinator.resumeSource (s : Coordinator) (l : Lift) : Coordinator :=
  let ready := l.source != .cutter || s.cutter.recovery == .clear
  s.modLift l.id fun x =>
    { x with position := l.source, dest := none, pair := none, state := if ready then .ready else .working }

/-- DEST: the lift stands at the destination and is WORKING there; at CUTTER it arrives, with the entry orientation where no Receive DONE was taken (R38, R75). -/
def Coordinator.resumeDest (s : Coordinator) (l : Lift) (d : Position) : Coordinator :=
  let entry := s.entryOf l
  let t := s.modLift l.id fun x =>
    { x with
      position := d
      dest := none
      pair := none
      state := .working
      orientation := if d = .cutter ∧ l.position ≠ .cutter then some entry else x.orientation }
  if d = .cutter then t.arrive l.id else t

/-- An accepted Lift Resume (R38, R39, R40, R92). -/
def Coordinator.resume (s : Coordinator) (l : Lift) (o : ResumeOption) : Coordinator :=
  let t := s.modLift l.id fun x => { x with state := .working, uncertain := if o = .again ∨ o = .skip then false else x.uncertain }
  match o, l.dest with
  | .source, _ => s.resumeSource l
  | .dest, some d => s.resumeDest l d
  | .dest, none => s
  | .again, _ => t.repeatCut l
  | .skip, _ => if l.uncertain then t.completeCut l.id else t.skipRange l
  | .none, _ => if l.state = .held .pause then t.completeStep l.id else t.finishIfDone l.id

/-- State and position of a lift as an answer shows them. -/
def Coordinator.standing (s : Coordinator) (id : Nat) : List Byte :=
  match s.lift? id with
  | some l => [byte l.state.code, byte l.position.code]
  | none => []

/-- Lift Resume (R37). -/
def liftResume (s : Coordinator) (args : List Byte) : Coordinator × Reply :=
  match args with
  | [i, c] =>
    match ResumeOption.ofCode c.toNat with
    | none => (s, refuse .badArg)
    | some o =>
      if !idFits i then (s, refuse .badArg)
      else
        match s.lift? i.toNat with
        | none => (s, refuse .notFound)
        | some l =>
          if s.sup.mode = .safe ∨ s.sup.mode = .setup then (s, refuse .wrongMode)
          else
            match l.state with
            | .held _ =>
              if s.liftBusy l.id then (s, refuse .badState)
              else if !l.allowed.contains o then (s, refuse .badArg)
              else
                let t := s.resume l o
                (t, reply .ok (t.standing l.id))
            | _ => (s, refuse .badState)
  | _ => badLength s

/-! ### Reading lifts and the line (R44, R45) -/

/-- Read Lift (R44). -/
def readLift (s : Coordinator) (args : List Byte) : Coordinator × Reply :=
  match args with
  | [i] =>
    if !idFits i then (s, refuse .badArg)
    else
      match s.lift? i.toNat with
      | none => (s, refuse .notFound)
      | some l => (s, reply .ok (liftRecord l (s.lifts.findIdx fun x => x.id == l.id)))
  | _ => badLength s

/-- A position table entry: FREE 0, STANDING 1 or RESERVED 2, then the lift id or 0 (R208). -/
def PosEntry.bytes : PosEntry → List Byte
  | .free => [0, 0]
  | .standing i => [1, byte i]
  | .reserved i => [2, byte i]

/-- Read Line (R45). -/
def readLine (s : Coordinator) (args : List Byte) : Coordinator × Reply :=
  match args with
  | [] =>
    (s, reply .ok
      (byte s.lifts.length :: (s.lifts.flatMap fun l => [byte l.id, byte l.state.code, byte l.position.code]) ++
        ([Position.lifter, .jogger, .cutter, .outfeed].flatMap fun p => (s.posEntry p).bytes) ++
        [flagByte s.tracker.jogger, flagByte s.tracker.rotator, flagByte s.tracker.outfeed]))
  | _ => badLength s

/-! ### Piles (R51, R52) -/

/-- The record of a newly declared pile (R51). -/
def Pile.newlyDeclared (id : Nat) (flip : Bool) (budget : Nat) : Pile where
  id := id
  state := .declared
  position := .none
  flip := flip
  declared := budget
  remaining := budget
  taken := 0
  heightLeft := none
  move := none
  clear := none

/-- Pile Declare (R51). -/
def pileDeclare (s : Coordinator) (args : List Byte) : Coordinator × Reply :=
  match args with
  | [i, f, b] =>
    match flagOf f with
    | none => (s, refuse .badArg)
    | some flip =>
      if !idFits i || b == 0 then (s, refuse .badArg)
      else if s.piles.any fun p => p.id == i.toNat then (s, refuse .inUse)
      else if Config.pileRecords ≤ s.piles.length then (s, refuse .noRoom)
      else
        ({ s with piles := s.piles ++ [Pile.newlyDeclared i.toNat flip b.toNat] },
          reply .ok [i, byte (s.piles.length + 1)])
  | _ => badLength s

/-- Read Piles (R52; spec/11 section 11.6). -/
def readPiles (s : Coordinator) (args : List Byte) : Coordinator × Reply :=
  match args with
  | [] =>
    (s, reply .ok (s.piles.flatMap pileRecord ++
      [flagByte s.infeed.turnerMark, flagByte s.infeed.lifterCall, flagByte s.infeed.turnerCall]))
  | _ => badLength s

/-! ### Chop Run (R96, R97) -/

/-- Chop Run (R96, R97). -/
def chopRun (s : Coordinator) (args : List Byte) : Coordinator × Reply :=
  match args with
  | [i, k, c] =>
    if !idFits i || decide (39 < k.toNat) || decide (31 < c.toNat) then (s, refuse .badArg)
    else
      match s.lift? i.toNat with
      | none => (s, refuse .notFound)
      | some l =>
        if s.stepCountOf l ≤ k.toNat then (s, refuse .badArg)
        else
          match (s.stepsOf l)[k.toNat]? with
          | some (.strip _ _ _ _ _) =>
            if l.position = .outfeed ∨ (l.atCutter ∧ k.toNat < l.stepIndex) then (s, refuse .tooLate)
            else if l.atCutter ∧ l.stepIndex = k.toNat then
              let n := min l.runRemaining c.toNat
              (s.modLift l.id fun x => { x with runRemaining := n }, reply .ok [1, byte n])
            else (s.modLift l.id fun x => { x with chop := some (k.toNat, c.toNat) }, reply .ok [0, 0])
          | _ => (s, refuse .badArg)
  | _ => badLength s

end Sys2Proof.Machine
end

