-- ==== Sys2Proof/Machine/Tables.lean ====
section
/-! DEFINITION. The requests of the Order Table, the Timing Table and the Pressure Arbiter (spec/05, spec/06). -/

namespace Sys2Proof.Machine

/-! ### Timing Table (R122, R123) -/

/-- Load Timing (R122). -/
def loadTiming (s : Coordinator) (args : List Byte) : Coordinator × Reply :=
  match args with
  | [e, v3, v2, v1, v0] =>
    let v := nat4 v3 v2 v1 v0
    if e = 255 then ({ s with timing := Config.timingDefaults }, reply .ok [])
    else
      match s.timing[e.toNat]? with
      | none => (s, refuse .badArg)
      | some old =>
        let range := Config.timingRange e.toNat
        if range.1 ≤ v ∧ v ≤ range.2 then
          ({ s with timing := s.timing.setIfInBounds e.toNat v }, reply .ok (e :: (be4 old ++ be4 v)))
        else (s, refuse .badArg)
  | _ => badLength s

/-- Read Timing (R123). -/
def readTiming (s : Coordinator) (args : List Byte) : Coordinator × Reply :=
  match args with
  | [e] =>
    if 20 < e.toNat then (s, refuse .badArg)
    else (s, reply .ok (e :: ((s.timing.toList.drop e.toNat).take 8).flatMap be4))
  | _ => badLength s

/-! ### Reading the Order Table (R118 to R120) -/

/-- The SUMMARY form of Read Orders (R120, R208). -/
def ordersSummary (s : Coordinator) : List Byte :=
  packTwoBits (s.tags.toList.map Tag.code) ++
    [byte s.pendingTags, byte s.quarantinedTags, byte s.orders.mark, byte s.orders.requests.length] ++
    be2 s.orders.staleCount ++ [byte s.orders.faultCount]

/-- The fields of an order record that both states show (R101, R208). The subject byte of an order without a subject is 0: DESIGN CHOICE, log 41. -/
def recordBytes (r : OrderRecord) : List Byte :=
  let ps := Order.params r.order
  [byte r.order.role.code, byte (portCode r.port), byte r.order.kind.code, flagByte r.order.subject.isSome,
    byte (r.order.subject.getD 0), byte ps.length] ++
  (ps ++ List.replicate (4 - ps.length) 0) ++ [flagByte r.order.usesPressure]

/-- The fields of a tag as Read Orders returns them (R120, R208). -/
def tagFields : Tag → List Byte
  | .free => []
  | .pending r d => recordBytes r ++ be4 d ++ [0] ++ be2 0
  | .quarantined r c t => recordBytes r ++ be4 0 ++ [byte c.code] ++ be2 t

/-- Read Orders (R120). -/
def readOrders (s : Coordinator) (args : List Byte) : Coordinator × Reply :=
  match args with
  | [e] =>
    if e = 255 then (s, reply .ok (ordersSummary s))
    else
      match tagOf e with
      | some t => (s, reply .ok (e :: byte (s.tags[t]).code :: tagFields s.tags[t]))
      | none => (s, refuse .badArg)
  | _ => badLength s

/-- Read Fault Record (R118). -/
def readFaultRecord (s : Coordinator) (args : List Byte) : Coordinator × Reply :=
  match args with
  | [] =>
    (s, reply .ok (faultRecordBytes s.orders.firstFault ++ [byte s.orders.faultCount] ++ be2 s.orders.staleCount ++
      be4 s.lineTime))
  | _ => badLength s

/-- Clear Fault Record (R119). -/
def clearFaultRecord (s : Coordinator) (args : List Byte) : Coordinator × Reply :=
  match args with
  | [] =>
    ({ s with orders := { s.orders with firstFault := none, faultCount := 0 } },
      reply .ok (faultRecordBytes s.orders.firstFault ++ [byte s.orders.faultCount] ++ be4 s.lineTime))
  | _ => badLength s

/-! ### Set Pressure (R139) -/

/-- A priority order naming each station exactly once, of role codes (R139). -/
def priorityOf (a b c : Byte) : Option (List Hydraulic) :=
  match Hydraulic.ofRoleCode a.toNat, Hydraulic.ofRoleCode b.toNat, Hydraulic.ofRoleCode c.toNat with
  | some x, some y, some z => if x ≠ y ∧ y ≠ z ∧ x ≠ z then some [x, y, z] else none
  | _, _, _ => none

/-- A setting that is a value or KEEP, code 255: the value it leaves; none where it is refused. -/
def kept {α : Type} (code : Byte) (now : α) (value : Option α) : Option α := if code = 255 then some now else value

/-- The hold-over setting: ENABLED 0, DISABLED 1 (R208). -/
def holdOverOf (b : Byte) : Option Bool := if b = 0 then some true else if b = 1 then some false else none

/-- The hold-over cap: 1–32 (R126). -/
def capOf (b : Byte) : Option Nat := if 1 ≤ b.toNat ∧ b.toNat ≤ 32 then some b.toNat else none

/-- The state of the Arbiter as Set Pressure answers it (R139, R208). -/
def arbiterBytes (s : Coordinator) : List Byte :=
  (match s.arbiter.grant with | some (h, p) => [byte h.holderCode, byte p.code] | none => [0, 0]) ++
  [requestBits s.arbiter.flags, flagByte s.arbiter.yield, flagByte s.inputs.pressOk] ++
  (s.arbiter.priority.map fun h => byte h.role.code) ++
  [if s.arbiter.holdOver then 0 else 1, byte s.arbiter.cap, byte s.cutter.holdOver]

/-- Set Pressure (R139): the settings, and a grant decision where the holder is NONE and a flag is set (R128). -/
def setPressure (s : Coordinator) (args : List Byte) : Coordinator × Reply :=
  match args with
  | [a, b, c, h, k] =>
    match kept a s.arbiter.priority (priorityOf a b c), kept h s.arbiter.holdOver (holdOverOf h), kept k s.arbiter.cap (capOf k) with
    | some order, some ho, some cap =>
      let t := (s.modArbiter fun x => { x with priority := order, holdOver := ho, cap := cap }).grantDecision
      (t, reply .ok (arbiterBytes t))
    | _, _, _ => (s, refuse .badArg)
  | _ => badLength s

end Sys2Proof.Machine
end

