-- ==== Sys2Proof/Machine/Modes.lean ====
section
/-! DEFINITION. The requests of the Line Supervisor, and Line Reset (spec/07, spec/10 R202). -/

namespace Sys2Proof.Machine

/-! ### Refresh and Set Supervision (R157, R159) -/

/-- What every answer of a running watchdog carries: the count, the refresh code, the period (R157). -/
def watchdogBytes (x : Supervisor) : List Byte :=
  byte x.failures :: (be2 x.refreshCode.toNat ++ [byte x.period.val])

/-- With check ROLLING the refresh code takes a new value (R157). -/
def Coordinator.rollCode (s : Coordinator) : Coordinator :=
  if s.sup.check = .rolling then
    { s with
      sup := { s.sup with refreshCode := newCode s.sup.refreshCode (Config.refreshDraw s.draws) }
      draws := s.draws + 1 }
  else s

/-- A good refresh: the count 0 and the period restarted (R157). -/
def Coordinator.goodRefresh (s : Coordinator) : Coordinator := s.modSup fun x => { x with failures := 0, elapsed := 0 }

/-- The code a Refresh carries is right: always with check PLAIN, 4,095 minus the refresh code with ROLLING (R157). -/
def Supervisor.codeRight (x : Supervisor) (code : Nat) : Bool := x.check == .plain || code == 4095 - x.refreshCode.toNat

/-- Refresh (R157). -/
def refresh (s : Coordinator) (args : List Byte) : Coordinator × Reply :=
  match args with
  | [c1, c0] =>
    if !s.sup.running then (s, refuse .wrongMode)
    else if s.sup.inClosedHalf then
      let t := s.rollCode.watchdogFailure
      (t, reply .badState (watchdogBytes t.sup))
    else if !s.sup.codeRight (nat2 c1 c0) then
      let t := s.rollCode.watchdogFailure
      (t, reply .badArg (watchdogBytes t.sup))
    else
      let t := s.rollCode.goodRefresh
      (t, reply .ok (watchdogBytes t.sup))
  | _ => badLength s

/-- A period code 0–7. -/
def periodOf (b : Byte) : Option (Fin 8) := if h : b.toNat < 8 then some ⟨b.toNat, h⟩ else none

def styleOf (b : Byte) : Option WatchdogStyle := if b = 0 then some .timeout else if b = 1 then some .window else none

def checkOf (b : Byte) : Option WatchdogCheck := if b = 0 then some .plain else if b = 1 then some .rolling else none

/-- An escalation count: 1, 2, 4 or 8. -/
def escalationOf (b : Byte) : Option Nat := if b = 1 ∨ b = 2 ∨ b = 4 ∨ b = 8 then some b.toNat else none

/-- The four settings as Set Supervision answers them (R159, R208). -/
def supervisionBytes (x : Supervisor) : List Byte :=
  [byte x.period.val, byte x.style.code, byte x.check.code, byte x.escalation]

/-- Set Supervision (R159). -/
def setSupervision (s : Coordinator) (args : List Byte) : Coordinator × Reply :=
  match args with
  | [p, y, c, e] =>
    if s.sup.mode ≠ .safe then (s, refuse .wrongMode)
    else
      match kept p s.sup.period (periodOf p), kept y s.sup.style (styleOf y), kept c s.sup.check (checkOf c),
        kept e s.sup.escalation (escalationOf e) with
      | some p', some y', some c', some e' =>
        let t := s.modSup fun x => { x with period := p', style := y', check := c', escalation := e', failures := 0 }
        (t, reply .ok (supervisionBytes t.sup))
      | _, _, _, _ => (s, refuse .badArg)
  | _ => badLength s

/-! ### The secured challenge (R160, R161) -/

/-- Read Challenge (R160). -/
def readChallenge (s : Coordinator) (args : List Byte) : Coordinator × Reply :=
  match args with
  | [] =>
    let c := drawFrom s.sup.lastChallenge (Config.challengeDraw s.draws)
    ({ s with sup := { s.sup with challenge := some c, lastChallenge := some c }, draws := s.draws + 1 },
      reply .ok (be2 c.toNat))
  | _ => badLength s

/-- The challenge answer is correct (R161). -/
def Supervisor.answers (x : Supervisor) (answer : Nat) : Bool :=
  match x.challenge with
  | some c => answer == 4095 - c.toNat
  | none => false

/-- A secured request: the challenge is consumed first, and a wrong answer is refused and is a watchdog failure (R161). Arguments of the wrong length leave the challenge as it was, where R198 has it consumed whatever the result and R210 has such a request change nothing: DESIGN CHOICE, log 42. -/
def secured (s : Coordinator) (args : List Byte) (then' : Coordinator → Coordinator × Reply) : Coordinator × Reply :=
  match args with
  | [a1, a0] =>
    let t := s.modSup fun x => { x with challenge := none }
    if s.sup.answers (nat2 a1 a0) then then' t else (t.watchdogFailure, refuse .badChallenge)
  | _ => badLength s

/-- Release Safe after its challenge (R150). -/
def releaseSafeChecked (s : Coordinator) : Coordinator × Reply :=
  if s.sup.mode ≠ .safe then (s, refuse .wrongMode)
  else if s.inputs.estop || s.inputs.curtain then
    (s, reply .badState [0, guardBits s.inputs.curtain false s.inputs.estop])
  else if 0 < s.pendingTags + s.quarantinedTags then (s, reply .badState [1, byte s.quarantinedTags])
  else
    let t := (s.setMode .hold .request).modSup fun x =>
      { x with safeOutput := false, failures := 0, running := true, elapsed := 0 }
    (t, reply .ok (byte t.sup.mode.code :: be2 t.sup.refreshCode.toNat))

/-- Release Safe (R150). -/
def releaseSafe (s : Coordinator) (args : List Byte) : Coordinator × Reply := secured s args releaseSafeChecked

/-- Enter Setup after its challenge (R162). -/
def enterSetupChecked (s : Coordinator) : Coordinator × Reply :=
  if s.sup.mode ≠ .hold then (s, refuse .wrongMode)
  else if 0 < s.pendingTags then (s, refuse .badState)
  else (s.setMode .setup .request, reply .ok [])

/-- Enter Setup (R162). -/
def enterSetup (s : Coordinator) (args : List Byte) : Coordinator × Reply := secured s args enterSetupChecked

/-- Leave Setup (R163, R73, R175). -/
def leaveSetup (s : Coordinator) (args : List Byte) : Coordinator × Reply :=
  match args with
  | [] =>
    if s.sup.mode ≠ .setup then (s, refuse .wrongMode)
    else ((s.setMode .hold .request).loseAllUnits.purgeManual, reply .ok [])
  | _ => badLength s

/-- Hold Line (R164). -/
def holdLine (s : Coordinator) (args : List Byte) : Coordinator × Reply :=
  match args with
  | [] =>
    match s.sup.mode with
    | .run | .hold =>
      let t := s.causeHold .request
      (t, reply .ok [byte t.sup.mode.code, byte (deferredCode t.sup.deferred)])
    | .safe | .setup => (s, refuse .wrongMode)
  | _ => badLength s

/-- The unassigned roles, bit n for the role of code n (R165, R208). -/
def unassignedBits (t : RoleTable) : Byte := bitsByte (Role.all.map fun r => (t.get r).isNone)

/-- Resume Line (R165). -/
def resumeLine (s : Coordinator) (args : List Byte) : Coordinator × Reply :=
  match args with
  | [] =>
    if s.sup.mode ≠ .hold then (s, refuse .wrongMode)
    else if s.inputs.estop || s.inputs.curtain || s.inputs.door then
      (s, reply .badState [0, guardBits s.inputs.curtain s.inputs.door s.inputs.estop])
    else if !s.west.isUp || !s.east.isUp then (s, reply .badState [1, bitsByte [!s.west.isUp, !s.east.isUp]])
    else if Role.all.any (fun r => (s.roles.get r).isNone) then (s, reply .badState [2, unassignedBits s.roles])
    else (s.setMode .run .resume, reply .ok [])
  | _ => badLength s

/-! ### Line Reset (R202) -/

/-- What an accepted Line Reset does, block by block (R202: R47, R69, R19, R100, R125, R141). -/
def Coordinator.lineCleared (s : Coordinator) : Coordinator :=
  let t :=
    { s with
      lifts := []
      piles := []
      slots := s.slots.map fun (x : Slot) => { x with useCount := 0 }
      orders := { s.orders with requests := [] } }
  (t.loseAllUnits.modCutter fun c => { c with stage := .none, cutNumber := 0 }).revoke

/-- Line Reset after its challenge (R202). -/
def lineResetChecked (s : Coordinator) : Coordinator × Reply :=
  if s.sup.mode = .run then (s, refuse .wrongMode)
  else if 0 < s.pendingTags + s.quarantinedTags then (s, refuse .badState)
  else (s.lineCleared, reply .ok [byte s.lifts.length, byte s.piles.length])

/-- Line Reset (R202). -/
def lineReset (s : Coordinator) (args : List Byte) : Coordinator × Reply := secured s args lineResetChecked

end Sys2Proof.Machine
end

