-- ==== Sys2Proof/Machine/System.lean ====
section
/-! DEFINITION. The requests of the Frame Router, the Link Ports, the Management Agent and the Notice Unit (spec/08, spec/09, spec/10). -/

namespace Sys2Proof.Machine

/-! ### Set Role and Set Forward (R177, R178) -/

/-- The Role Table as answers show it: addresses in code order, 0 for UNASSIGNED (R208). -/
def roleBytes (t : RoleTable) : List Byte := Role.all.map fun r => byte ((t.get r).getD 0)

/-- Set Role's checks and effect on the table: the state after and the result (R177). -/
def assignRole (s : Coordinator) (r : Role) (setting : Nat) : Coordinator × Result :=
  if r = .cell ∧ setting = 0 then (s, .badArg)
  else if setting = 255 then (s, .ok)
  else if s.sup.mode = .run then (s, .wrongMode)
  else if s.roleInUse r then (s, .badState)
  else if setting = 0 then ({ s with roles := s.roles.assign r none }, .ok)
  else if Role.all.any (fun q => q ≠ r ∧ s.roles.get q = some setting) then (s, .inUse)
  else ({ s with roles := s.roles.assign r (some setting) }, .ok)

/-- Set Role (R177): every answer carries the Role Table as it stands after the request. -/
def setRole (s : Coordinator) (args : List Byte) : Coordinator × Reply :=
  match args with
  | [r, a] =>
    match Role.ofCode r.toNat with
    | none => (s, reply .badArg (roleBytes s.roles))
    | some role =>
      if 62 < a.toNat ∧ a ≠ 255 then (s, reply .badArg (roleBytes s.roles))
      else
        let t := assignRole s role a.toNat
        (t.1, reply t.2 (roleBytes t.1.roles))
  | _ => badLength s

def routeOf (b : Byte) : Option Route :=
  if b = 0 then some .west else if b = 1 then some .east else if b = 2 then some .none else Option.none

/-- The entry of an address as an answer shows it; an address above 63 has none (log 6). -/
def entryByte (routes : Vector Route 64) (a : Byte) : Byte :=
  match routes[a.toNat]? with
  | some r => byte r.code
  | none => Config.missingEntry a.toNat

/-- What every answer of Set Forward shows, given the table before (R178, R208). -/
def forwardBytes (s : Coordinator) (before : Vector Route 64) (a : Byte) : List Byte :=
  [a, entryByte before a, entryByte s.routes a, match s.roles.roleOf a.toNat with | some r => byte r.code | none => 255] ++
    packTwoBits (s.routes.toList.map Route.code)

/-- Set Forward's checks and effect: the state after and the result (R178). -/
def assignRoute (s : Coordinator) (a setting : Byte) : Coordinator × Result :=
  if a.toNat = 0 ∨ 62 < a.toNat then (s, .badArg)
  else if setting = 255 then (s, .ok)
  else
    match routeOf setting with
    | none => (s, .badArg)
    | some r =>
      let t : Coordinator := { s with routes := s.routes.setIfInBounds a.toNat r }
      match s.roles.roleOf a.toNat with
      | none => (t, .ok)
      | some role =>
        if role = .cell then (t, .ok)
        else if s.sup.mode = .run then (s, .wrongMode)
        else if s.roleInUse role then (s, .badState)
        else (t, .ok)

/-- Set Forward (R178). -/
def setForward (s : Coordinator) (args : List Byte) : Coordinator × Reply :=
  match args with
  | [a, r] =>
    let t := assignRoute s a r
    (t.1, reply t.2 (forwardBytes t.1 s.routes a))
  | _ => badLength s

/-! ### Set Port (R192) -/

/-- A two-byte setting that is a value or KEEP, 0xFFFF. -/
def kept2 (n now : Nat) (ok : Bool) : Option Nat := if n = 65535 then some now else if ok then some n else none

def rateOf (b : Byte) : Option Rate :=
  if b = 0 then some .r12 else if b = 1 then some .r25 else if b = 2 then some .r50 else none

def portOfCode (b : Byte) : Option Port := if b = 0 then some .west else if b = 1 then some .east else none

/-- Four settings as an answer shows them. -/
def settingsBytes (x : PortSettings) : List Byte :=
  be2 x.alignWindow ++ be2 x.bringUpLimit ++ be2 x.lockWait ++ [flagByte x.lockIgnore]

/-- The five port counters (R208). -/
def portCounterBytes (c : PortCounters) : List Byte :=
  be2 c.ups ++ be2 c.losses ++ be2 c.failures ++ be2 c.earlyDiscards ++ be2 c.queueDiscards

/-- The answer data of Set Port (R192, R208). -/
def portBytes (p : Port) (l : Link) : List Byte :=
  [byte (portCode p), byte l.state.code, byte l.rate.code, byte l.stagedRate.code] ++ settingsBytes l.staged ++
    settingsBytes l.active ++ [byte l.lastLoss.code] ++ portCounterBytes l.counters

/-- The frame no longer carries the mark of an earlier retrain. -/
def OwnFrame.unmark (f : OwnFrame) : OwnFrame := { f with answerOfRetrain := false }

/-- Retrain pending names the ANSWER to come instead of an earlier one (R192). -/
def Link.retrainNext (l : Link) : Link :=
  { l with retrain := true, own := l.own.map OwnFrame.unmark, sending := l.sending.map OwnFrame.unmark }

/-- A retrain: the state after, and whether the ANSWER to come is the one that retrain pending names (R192). -/
def Coordinator.retrain (s : Coordinator) (p : Port) : Coordinator × Bool :=
  if (s.link p).isUp then
    match p with
    | .west => ({ s with west := s.west.retrainNext }, true)
    | .east => (s.loseUp .east .retrain, false)
  else (s.modLink p Link.restart, false)

/-- The settings a Set Port leaves staged, none where a value is out of its range (R184, R192). -/
def stagedBy (l : Link) (rate : Byte) (window limit wait : Nat) (ignore : Byte) : Option (Rate × PortSettings) :=
  match kept rate l.stagedRate (rateOf rate), kept2 window l.staged.alignWindow (1 ≤ window && window ≤ 255),
    kept2 limit l.staged.bringUpLimit (10 ≤ limit && limit ≤ 2550 && limit % 10 == 0),
    kept2 wait l.staged.lockWait (1 ≤ wait && wait ≤ 255), kept ignore l.staged.lockIgnore (flagOf ignore) with
  | some r, some a, some b, some w, some i => some (r, ⟨a, b, w, i⟩)
  | _, _, _, _, _ => none

/-- Set Port (R192). -/
def setPort (s : Coordinator) (args : List Byte) : Coordinator × Reply :=
  match args with
  | [p, r, a1, a0, b1, b0, w1, w0, i, act] =>
    match portOfCode p, flagOf act with
    | some port, some again =>
      match stagedBy (s.link port) r (nat2 a1 a0) (nat2 b1 b0) (nat2 w1 w0) i with
      | some x =>
        if again ∧ s.sup.mode = .run then (s, refuse .wrongMode)
        else
          let t := s.modLink port fun l => { l with stagedRate := x.1, staged := x.2 }
          let u := if again then t.retrain port else (t, false)
          (u.1, ⟨.ok, portBytes port (u.1.link port), u.2⟩)
      | none => (s, refuse .badArg)
    | _, _ => (s, refuse .badArg)
  | _ => badLength s

/-! ### Identity and status (R200, R201) -/

/-- The characters BREZKAL and ULBRAM (R200). -/
def nameBytes : List Byte := [0x42, 0x52, 0x45, 0x5A, 0x4B, 0x41, 0x4C, 0x55, 0x4C, 0x42, 0x52, 0x41, 0x4D]

/-- Read Identity (R200). -/
def readIdentity (s : Coordinator) (args : List Byte) : Coordinator × Reply :=
  match args with
  | [] =>
    (s, reply .ok (nameBytes ++ be2 640 ++ [1] ++
      ([Config.programSlots, Config.stepsPerProgram, Config.liftRecords, Config.pileRecords, Config.orderTags,
        Config.agentQueue, Config.ownQueue, Config.fwdQueue].map byte) ++ be4 s.lineTime))
  | _ => badLength s

/-- The LINE part of Read Status, 45 bytes (R201, R208). -/
def lineStatus (s : Coordinator) : List Byte :=
  [byte s.sup.mode.code, byte s.sup.cause.code, byte (deferredCode s.sup.deferred),
    bitsByte [s.inputs.curtain, s.inputs.door, s.inputs.estop, s.inputs.pressOk],
    flagByte s.sup.running, byte s.sup.period.val, byte s.sup.style.code, byte s.sup.check.code, byte s.sup.escalation,
    byte s.sup.failures] ++ be2 s.sup.elapsed ++ be2 s.sup.refreshCode.toNat ++
  [byte s.lifts.length, byte s.piles.length, byte s.pendingTags, byte s.quarantinedTags, byte s.orders.requests.length] ++
  be2 s.orders.staleCount ++ [byte s.orders.faultCount] ++
  (match s.arbiter.grant with | some (h, p) => [byte h.holderCode, byte p.code] | none => [0, 0]) ++
  [byte s.cutter.clamp.code, byte s.cutter.knife.code] ++
  (match s.cutter.gauge with | .known n => 0 :: be4 n | .unknown => 1 :: be4 0) ++
  [byte s.cutter.rotator.code, byte s.cutter.recovery.code, byte s.agent.length] ++ be4 s.lineTime ++
  causeField s.notices.pending ++ causeField s.notices.mask ++ be2 s.notices.holdOff ++ [flagByte s.notices.due]

/-- The WEST or EAST part of Read Status (R201, R208). -/
def portStatus (l : Link) : List Byte :=
  [byte l.state.code, byte l.rate.code, byte l.lastLoss.code] ++ be2 l.router.badCheck ++ be2 l.router.filter ++
    be2 l.router.noRoute ++ be2 l.router.queueFull ++ be2 l.router.consumed ++ be2 l.router.forwarded ++
    portCounterBytes l.counters

/-- Read Status (R201). -/
def readStatus (s : Coordinator) (args : List Byte) : Coordinator × Reply :=
  match args with
  | [p] =>
    if p = 0 then (s, reply .ok (lineStatus s))
    else if p = 1 then (s, reply .ok (portStatus s.west))
    else if p = 2 then (s, reply .ok (portStatus s.east))
    else (s, refuse .badArg)
  | _ => badLength s

/-! ### Notices (R205, R206) -/

/-- The mask a Set Notice leaves, none where it names anything other than the ten causes (R205). -/
def maskOf (n : Nat) (now : BitVec 10) : Option (BitVec 10) := if n = 65535 then some now else causesOf n

/-- The due mark under a new mask: set by enabling a cause already pending, cleared where no pending cause is enabled (R205; log 37). -/
def Notices.dueUnder (n : Notices) (mask : BitVec 10) : Bool :=
  (n.due || n.pending &&& mask &&& ~~~n.mask != 0) && n.pending &&& mask != 0

/-- Set Notice (R205). -/
def setNotice (s : Coordinator) (args : List Byte) : Coordinator × Reply :=
  match args with
  | [m1, m0, h1, h0] =>
    match maskOf (nat2 m1 m0) s.notices.mask, kept2 (nat2 h1 h0) s.notices.holdOff (nat2 h1 h0 ≤ Config.holdOffMax) with
    | some mask, some hold =>
      let n := { s.notices with mask := mask, holdOff := hold, due := s.notices.dueUnder mask }
      ({ s with notices := n }, reply .ok (causeField n.mask ++ be2 n.holdOff ++ causeField n.pending))
    | _, _ => (s, refuse .badArg)
  | _ => badLength s

/-- The Notice Unit after a Clear Notice naming a set of causes (R206). -/
def Notices.cleared (n : Notices) (set : BitVec 10) : Notices :=
  { n with
    pending := n.pending &&& ~~~set
    due := n.due && n.pending &&& ~~~set &&& n.mask != 0
    attention := if Cause.station.isIn set then n.attention.map fun a => { a with count := 0 } else n.attention }

/-- Clear Notice (R206). -/
def clearNotice (s : Coordinator) (args : List Byte) : Coordinator × Reply :=
  match args with
  | [c1, c0] =>
    match causesOf (nat2 c1 c0) with
    | some set => ({ s with notices := s.notices.cleared set }, reply .ok (causeField (s.notices.cleared set).pending))
    | none => (s, refuse .badArg)
  | _ => badLength s

end Sys2Proof.Machine
end

