-- ==== Sys2Proof/Machine/Agent.lean ====
section
/-! DEFINITION. The Management Agent: the request kinds and carrying out the front request of its queue (spec/10). -/

namespace Sys2Proof.Machine

/-- The request kinds in the order of their codes 1 to 35, and any other kind (R195, R197; spec/11 section 11.2). -/
inductive RequestKind
  | programOpen | stepWrite | programClose | programErase | readProgram
  | liftAdmit | liftCancel | liftResume | readLift | readLine
  | pileDeclare | readPiles | chopRun
  | loadTiming | readTiming | readOrders | readFaultRecord | clearFaultRecord | setPressure
  | refresh | setSupervision | readChallenge | releaseSafe | enterSetup | leaveSetup | holdLine | resumeLine
  | setRole | setForward | setPort | readIdentity | readStatus | setNotice | clearNotice | lineReset
  | unknown
  deriving DecidableEq, Repr

def RequestKind.ofCode : Nat → RequestKind
  | 1 => .programOpen | 2 => .stepWrite | 3 => .programClose | 4 => .programErase | 5 => .readProgram
  | 6 => .liftAdmit | 7 => .liftCancel | 8 => .liftResume | 9 => .readLift | 10 => .readLine
  | 11 => .pileDeclare | 12 => .readPiles | 13 => .chopRun
  | 14 => .loadTiming | 15 => .readTiming | 16 => .readOrders | 17 => .readFaultRecord | 18 => .clearFaultRecord
  | 19 => .setPressure
  | 20 => .refresh | 21 => .setSupervision | 22 => .readChallenge | 23 => .releaseSafe | 24 => .enterSetup
  | 25 => .leaveSetup | 26 => .holdLine | 27 => .resumeLine
  | 28 => .setRole | 29 => .setForward | 30 => .setPort | 31 => .readIdentity | 32 => .readStatus
  | 33 => .setNotice | 34 => .clearNotice | 35 => .lineReset
  | _ => .unknown

/-- A request of an unknown kind is answered BAD_ARG and changes nothing (R197). -/
def unknownRequest (s : Coordinator) (_args : List Byte) : Coordinator × Reply := (s, refuse .badArg)

/-- The owner's rule for a request kind: the state after its effects and the answer. -/
def handle : RequestKind → Coordinator → List Byte → Coordinator × Reply
  | .programOpen => Machine.programOpen | .stepWrite => Machine.stepWrite | .programClose => Machine.programClose
  | .programErase => Machine.programErase | .readProgram => Machine.readProgram
  | .liftAdmit => Machine.liftAdmit | .liftCancel => Machine.liftCancel | .liftResume => Machine.liftResume
  | .readLift => Machine.readLift | .readLine => Machine.readLine
  | .pileDeclare => Machine.pileDeclare | .readPiles => Machine.readPiles | .chopRun => Machine.chopRun
  | .loadTiming => Machine.loadTiming | .readTiming => Machine.readTiming | .readOrders => Machine.readOrders
  | .readFaultRecord => Machine.readFaultRecord | .clearFaultRecord => Machine.clearFaultRecord
  | .setPressure => Machine.setPressure
  | .refresh => Machine.refresh | .setSupervision => Machine.setSupervision | .readChallenge => Machine.readChallenge
  | .releaseSafe => Machine.releaseSafe | .enterSetup => Machine.enterSetup | .leaveSetup => Machine.leaveSetup
  | .holdLine => Machine.holdLine | .resumeLine => Machine.resumeLine
  | .setRole => Machine.setRole | .setForward => Machine.setForward | .setPort => Machine.setPort
  | .readIdentity => Machine.readIdentity | .readStatus => Machine.readStatus
  | .setNotice => Machine.setNotice | .clearNotice => Machine.clearNotice | .lineReset => Machine.lineReset
  | .unknown => unknownRequest

/-- What follows a request in its event, once its ANSWER is placed: nothing where it changes no condition another block tests, the NOTICE test after a notice request (R205), the whole end of an event otherwise (log 15). -/
def afterRequest : RequestKind → Coordinator → Coordinator
  | .liftCancel | .liftResume | .pileDeclare | .loadTiming | .setPressure
  | .refresh | .releaseSafe | .enterSetup | .leaveSetup | .holdLine | .resumeLine | .setPort | .lineReset => Coordinator.finish
  | .setNotice | .clearNotice => Coordinator.placeNotice
  | _ => id

/-- The front request's kind, number, arguments and source address, and the requests behind it. -/
def Coordinator.frontRequest (s : Coordinator) : Option (Byte × Byte × List Byte × Nat × List Frame) :=
  match s.agent with
  | f :: rest =>
    match f.payload with
    | kind :: number :: args => some (kind, number, args, frameFrom f, rest)
    | _ => none
  | [] => none

/-- The owner's part of carrying out a request and its ANSWER, which goes to the source the request arrived with (R196, R197). -/
def Coordinator.answered (s : Coordinator) (k : RequestKind) (kind number : Byte) (args : List Byte) (src : Nat) : Coordinator :=
  let r := handle k s args
  r.1.placeOwn .west ⟨answerFrame src kind number r.2.result r.2.data, r.2.mark⟩

/-- The Agent carries out the front request if it is of the kind k and the WEST own-frame queue has room for its ANSWER (R196); otherwise nothing happens (log 9). -/
def Coordinator.carryOut (s : Coordinator) (k : RequestKind) : Coordinator :=
  match s.frontRequest with
  | some (kind, number, args, src, rest) =>
    if RequestKind.ofCode kind.toNat = k ∧ s.west.roomFor 1 then
      afterRequest k (({ s with agent := rest }).answered k kind number args src)
    else s
  | none => s

/-- The Agent carries out its front request, whatever its kind (R196). -/
def Coordinator.carryOutFront (s : Coordinator) : Coordinator :=
  match s.frontRequest with
  | some (kind, _, _, _, _) => s.carryOut (RequestKind.ofCode kind.toNat)
  | none => s

/-- The transmitter of a port has sent its frame to its end (R181): the retrain that waited for it (R192), the next frame, and the placements that waited for room, the Agent's first. -/
def Coordinator.transmitted (s : Coordinator) (p : Port) : Coordinator :=
  let l := s.link p
  if l.sending.isNone then s
  else
    match l.state with
    | .up =>
      if l.endsRetrain then (s.modLink p fun x => { x with sending := none }).leaveUp p .retrain
      else
        let t := s.modLink p Link.sent
        let roomCame := p == .west && !l.roomFor 1 && t.west.roomFor 1
        (if roomCame then t.carryOutFront else t).finish
    | _ => s.modLink p fun x => { x with sending := none }

end Sys2Proof.Machine
end

