-- ==== Sys2Proof/Machine/Router.lean ====
section
/-! DEFINITION. The Frame Router: screening, requests, reports, events, forwarding, MANUAL frames, and what a port does with a frame received (spec/08, spec/09, spec/11). -/

namespace Sys2Proof.Machine

/-! ### The forward step (R173) -/

/-- What the forward step does with a frame. -/
inductive Forwarding
  | noRoute
  | full
  | to (out : Port)
  deriving DecidableEq, Repr

/-- The out-port of a destination: the other port for a broadcast, and by the Forwarding Table otherwise, where the receiving port is none (R173). -/
def Coordinator.outPort (s : Coordinator) (p : Port) (dest : Nat) : Option Port :=
  if dest = Config.broadcast then some p.other
  else (s.portOf dest).filter fun q => q != p

/-- The decision of the forward step for a frame received at a port (R173). -/
def Coordinator.forwarding (s : Coordinator) (p : Port) (f : Frame) : Forwarding :=
  match s.outPort p (frameTo f) with
  | none => .noRoute
  | some q =>
    if !(s.link q).isUp then .noRoute
    else if Config.fwdQueue ≤ (s.link q).forward.length then .full
    else .to q

/-- A frame is placed at the back of the forwarded queue; a free transmitter starts at once (R173, R181). -/
def Link.queueForward (l : Link) (f : ForwardedFrame) : Link := ({ l with forward := l.forward ++ [f] }).transmit

/-- The forward step: placed unchanged with its receiving port, or dropped, and counted (R173, R182). -/
def Coordinator.forward (s : Coordinator) (p : Port) (f : Frame) : Coordinator :=
  match s.forwarding p f with
  | .noRoute => s.countRouter p RouterCounters.addNoRoute
  | .full => s.countRouter p RouterCounters.addQueueFull
  | .to q =>
    (s.modLink q fun l => l.queueForward ⟨f, p⟩).countRouter p RouterCounters.addForwarded

/-! ### Requests (R171) -/

/-- An answer the Router builds is placed on WEST if there is room, and not sent otherwise (R171, R174, R179). -/
def Coordinator.routerAnswer (s : Coordinator) (f : Frame) : Coordinator :=
  if s.west.roomFor 1 then s.place .west f else s

/-- A REQUEST addressed to 63 (R171, R210). A FULL answer carries no data, also to a Set Role, a Set Forward or a Refresh, whose rows of R208 give data for every result, or every one but WRONG_MODE: DESIGN CHOICE, log 43. -/
def Coordinator.takeRequest (s : Coordinator) (p : Port) (f : Frame) : Coordinator :=
  match f.payload with
  | kind :: number :: _ =>
    if p = .east ∨ frameFrom f ≠ s.roles.cell then s.countRouter p RouterCounters.addFilter
    else
      let t := s.countRouter p RouterCounters.addConsumed
      if s.agent.length < Config.agentQueue then { t with agent := t.agent ++ [f] }
      else t.routerAnswer (answerFrame (frameFrom f) kind number .full [])
  | _ => s.countRouter p RouterCounters.addFilter

/-! ### Events (R172) -/

/-- A clear of the platform that failed is made ready for retry (R65). -/
def Pile.retryClear (p : Pile) : Pile := if p.clear = some .failed then { p with clear := some .notIssued } else p

/-- READY by the role of its source (R25, R53, R65, R73). -/
def Coordinator.readyFrom (s : Coordinator) (r : Role) : Coordinator :=
  match r with
  | .jogger => ({ s with tracker := { s.tracker with jogger := true } }).finish
  | .outfeed => ({ s with tracker := { s.tracker with outfeed := true } }).finish
  | .rotator => ({ s with tracker := { s.tracker with rotator := true } }).rotatorReady.finish
  | .turner => ({ s with infeed := { s.infeed with turnerMark := true } }).finish
  | .lifter => ({ s with piles := s.piles.map Pile.retryClear }).finish
  | .cell | .gauge | .press => s

/-- A CALL that passes its own checks comes from a station that cannot be reached: it is settled by an Idle, not sent where the station has no route to a port that is UP (R178, R179). Its reason, which R178 does not give, is a free value: log 39. -/
def Coordinator.strand (s : Coordinator) (station : Role) : Coordinator :=
  ({ s with draws := s.draws + 1 }).idle station (IdleReason.ofCode (Config.strandedReason s.draws))

/-- A CALL from the TURNER (R53, R54): the ready mark is set, and the call is answered Idle or left outstanding for the order decided; one from a TURNER that cannot be reached is settled (R178). -/
def Coordinator.turnerCalls (s : Coordinator) : Coordinator :=
  let t := { s with infeed := { s.infeed with turnerMark := true } }
  if s.infeed.turnerCall then t
  else if s.sup.mode ≠ .run then t.idle .turner .stopped
  else if t.moveWanted.isSome ∨ ((t.pileIn .declared).isSome ∧ !t.turnerHeld) then
    if t.reachable .turner then { t with infeed := { t.infeed with turnerCall := true } } else t.strand .turner
  else if t.turnerHeld then t.idle .turner .positionBusy
  else t.idle .turner .noPile

/-- A CALL from the LIFTER (R59): Idle by the first failing check, or outstanding with the LIFTER's request raised; one from a LIFTER that cannot be reached is settled (R178). -/
def Coordinator.lifterCalls (s : Coordinator) : Coordinator :=
  if s.infeed.lifterCall then s
  else
    match s.callCheck with
    | .error r => s.idle .lifter r
    | .ok _ =>
      if s.reachable .lifter then
        let t := { s with infeed := { s.infeed with lifterCall := true } }
        t.modArbiter fun a => { a with flags := { a.flags with lifter := true } }
      else s.strand .lifter

/-- CALL by the role of its source; any other is discarded (R172). -/
def Coordinator.callFrom (s : Coordinator) (r : Role) : Coordinator :=
  match r with
  | .turner => s.turnerCalls.finish
  | .lifter => s.lifterCalls.finish
  | _ => s

/-- ATTENTION from a station role: the ATTENTION record and the STATION cause, and a NOTICE that has become due (R172, R203, R204). -/
def Coordinator.attentionFrom (s : Coordinator) (r : Role) (code : Byte) : Coordinator :=
  let count := (s.notices.attention.map Attention.count).getD 0
  let a : Attention := ⟨r, code, saturate Config.smallCounterMax count⟩
  (({ s with notices := { s.notices with attention := some a } }).setCause .station).placeNotice

/-- An EVENT is delivered by its kind and the role of its source now (R172). -/
def Coordinator.takeEvent (s : Coordinator) (src : Nat) (payload : List Byte) : Coordinator :=
  match eventOf payload, s.roles.roleOf src with
  | some e, some r =>
    if r = .cell then s
    else
      match e with
      | .ready => s.readyFrom r
      | .call => s.callFrom r
      | .attention c => s.attentionFrom r c
  | _, _ => s

/-! ### MANUAL frames (R174) -/

/-- The reasons of a BLOCKED answer, MODE 0 to FULL 3 (spec/11, section 11.2). -/
inductive BlockReason
  | mode | role | route | full
  deriving DecidableEq, Repr

def BlockReason.code : BlockReason → Nat
  | .mode => 0 | .role => 1 | .route => 2 | .full => 3

/-- The BLOCKED answer to the cell computer (R174, R197; its echoed kind: log 6). -/
def Coordinator.block (s : Coordinator) (f : Frame) (r : BlockReason) : Coordinator :=
  s.routerAnswer (answerFrame s.roles.cell Config.blockedKind 0 .blocked [byte r.code, byte (frameTo f)])

/-- The destination may take MANUAL frames: the address held by GAUGE, PRESS or ROTATOR (R174). -/
def RoleTable.takesManual (t : RoleTable) (a : Nat) : Bool :=
  t.gauge == some a || t.press == some a || t.rotator == some a

/-- A MANUAL frame (R174). -/
def Coordinator.takeManual (s : Coordinator) (p : Port) (f : Frame) : Coordinator :=
  if frameFrom f ≠ s.roles.cell ∨ p = .east then s.countRouter p RouterCounters.addFilter
  else if s.sup.mode ≠ .setup then (s.countRouter p RouterCounters.addFilter).block f .mode
  else if !s.roles.takesManual (frameTo f) then (s.countRouter p RouterCounters.addFilter).block f .role
  else
    match s.forwarding p f with
    | .noRoute => (s.forward p f).block f .route
    | .full => (s.forward p f).block f .full
    | .to _ => s.forward p f

/-! ### Classification (R169, R170) -/

/-- A REPORT, EVENT or DATA frame by its destination: consumed, consumed and forwarded, or forwarded (R170). -/
def Coordinator.byDestination (s : Coordinator) (p : Port) (f : Frame) (consume : Coordinator → Coordinator) : Coordinator :=
  let taken := consume (s.countRouter p RouterCounters.addConsumed)
  if frameTo f = Config.ownAddress then taken
  else if frameTo f = Config.broadcast then taken.forward p f
  else s.forward p f

/-- The Router takes a frame with a good check, HELLO apart (R169, R170). -/
def Coordinator.route (s : Coordinator) (p : Port) (f : Frame) : Coordinator :=
  if filtered f then s.countRouter p RouterCounters.addFilter
  else if f.kind = kindRequest then s.takeRequest p f
  else if f.kind = kindReport then s.byDestination p f fun t => t.takeReport (frameFrom f) f.payload
  else if f.kind = kindEvent then s.byDestination p f fun t => t.takeEvent (frameFrom f) f.payload
  else if f.kind = kindManual then s.takeManual p f
  else s.byDestination p f id

/-! ### What a port does with what it has received (R169, R188, R189, R209) -/

/-- A frame whose check failed or whose length is malformed. -/
def Coordinator.receiveBad (s : Coordinator) (p : Port) : Coordinator :=
  match (s.link p).state with
  | .up => (s.countRouter p RouterCounters.addBadCheck).countBad p
  | .verify => s.modLink p Link.discardEarly
  | .down | .align | .lock => s

/-- A frame with a good check. -/
def Coordinator.receiveGood (s : Coordinator) (p : Port) (f : Frame) : Coordinator :=
  if Config.maxPayload < f.payload.length then s.receiveBad p
  else
    match (s.link p).state with
    | .up =>
      let t := s.modLink p fun l => { l with badRun := 0 }
      if f.kind = kindHello then
        match helloOf f.payload with
        | some (heard, answer) => t.takeHello p heard answer
        | none => t
      else t.route p f
    | .verify =>
      if f.kind = kindHello then
        match helloOf f.payload with
        | some (heard, answer) => s.takeHello p heard answer
        | none => s.modLink p Link.discardEarly
      else s.modLink p Link.discardEarly
    | .down | .align | .lock => s

/-- The bytes between a frame's start and its end, judged by length and check (R209). -/
def Coordinator.receiveBytes (s : Coordinator) (p : Port) (bytes : List Byte) : Coordinator :=
  match receive bytes with
  | .bad => s.receiveBad p
  | .good f => s.receiveGood p f

end Sys2Proof.Machine
end

