-- ==== Sys2Proof/Machine/Clock.lean ====
section
/-! DEFINITION. One millisecond of the timebase (spec/00, Time): what counts, and the expiry commands that fall due with it (log 7). -/

namespace Sys2Proof.Machine

/-- One more millisecond of an elapsed time that stops counting at a largest value (log 26). -/
def older (largest : Nat) (x : Option Nat) : Option Nat := x.map (saturate largest)

/-- The spacing record one millisecond later. -/
def Spacing.tick (x : Spacing) : Spacing where
  clampUp := older Config.spacingMax x.clampUp
  gauge := older Config.spacingMax x.gauge
  clampDown := older Config.spacingMax x.clampDown
  knifeCut := older Config.spacingMax x.knifeCut
  knifeRelease := older Config.spacingMax x.knifeRelease
  rotate := older Config.spacingMax x.rotate
  knifeIssue := older Config.spacingMax x.knifeIssue

/-- Deadline and quarantine timer count down (R111, R113). -/
def Tag.tick : Tag → Tag
  | .free => .free
  | .pending r d => .pending r (d - 1)
  | .quarantined r c t => .quarantined r c (t - 1)

/-- The period elapsed counts while the watchdog runs (R156). -/
def Supervisor.tick (x : Supervisor) : Supervisor :=
  if x.running then { x with elapsed := saturate x.periodMs x.elapsed } else x

/-- The times of a port in the state it is in (R185 to R188).
Bring-up elapsed and window elapsed count in ALIGN, LOCK and VERIFY alone, stop at the active bring-up limit and at 255, and keep their last values in DOWN and UP: DESIGN CHOICE, log 40. -/
def Link.tick (l : Link) : Link :=
  match l.state with
  | .down => { l with retryDelay := l.retryDelay - 1 }
  | .align | .lock | .verify =>
    { l with bringUp := saturate l.active.bringUpLimit l.bringUp, window := saturate 255 l.window }
  | .up => l

/-- Every count one millisecond later. -/
def Coordinator.tick (s : Coordinator) : Coordinator :=
  { s with
    cutter := { s.cutter with spacing := s.cutter.spacing.tick }
    tags := s.tags.map Tag.tick
    sup := s.sup.tick
    west := s.west.tick
    east := s.east.tick
    notices := { s.notices with since := saturate Config.sinceMax s.notices.since }
    lineTime := saturate Config.lineTimeMax s.lineTime }

/-- The start event of a spacing entry (R85). -/
def Spacing.startOf (x : Spacing) : SpacingEntry → Option Nat
  | .s0 => x.clampUp
  | .s1 => x.gauge
  | .s2 => x.clampDown
  | .s3 => x.knifeCut
  | .s4 => x.knifeRelease
  | .s5 => x.clampUp
  | .s6 => x.rotate
  | .s7s => x.knifeIssue
  | .s7l => x.knifeIssue

/-- The number of a spacing entry in the Timing Table (R121). -/
def spacingNumber : SpacingEntry → Fin 21
  | .s0 => 0 | .s1 => 1 | .s2 => 2 | .s3 => 3 | .s4 => 4 | .s5 => 5 | .s6 => 6 | .s7s => 7 | .s7l => 8

/-- The spacing entries by their start event (R85), Knife Cut issue first: it is the one start event that serving the issue list takes (log 31). -/
def spacingStarts : List (List SpacingEntry) := [[.s7s, .s7l], [.s0, .s5], [.s1], [.s2], [.s3], [.s4], [.s6]]

/-- The interval of a spacing entry has run out since its start event: at least as long ago as the entry says (R85). -/
def Spacing.expire (x : Spacing) (e : SpacingEntry) (interval : Nat) : Spacing :=
  let late := fun (t : Option Nat) => t.map (max interval)
  match e with
  | .s0 | .s5 => { x with clampUp := late x.clampUp }
  | .s1 => { x with gauge := late x.gauge }
  | .s2 => { x with clampDown := late x.clampDown }
  | .s3 => { x with knifeCut := late x.knifeCut }
  | .s4 => { x with knifeRelease := late x.knifeRelease }
  | .s6 => { x with rotate := late x.rotate }
  | .s7s | .s7l => { x with knifeIssue := late x.knifeIssue }

/-! ### Expiry commands due with a tick (log 7, log 31) -/

/-- The expiries of a port: the bring-up limit before the window of its state, and the HELLO of VERIFY last. -/
def Link.due (l : Link) (p : Port) : List Instr :=
  let limit := if l.active.bringUpLimit ≤ l.bringUp then [Instr.bringUpLimitExpiry p] else []
  match l.state with
  | .down => if l.retryDelay = 0 then [.retryDelayExpiry p] else []
  | .align => limit ++ (if l.active.alignWindow ≤ l.window then [.alignWindowExpiry p] else [])
  | .lock => limit ++ (if l.active.lockWait ≤ l.window then [.lockWaitExpiry p] else [])
  | .verify => limit ++ (if l.active.alignWindow ≤ l.window then [.verifyWindowExpiry p] else []) ++ [.helloSend p]
  | .up => []

/-- The expiry of a tag. -/
def Tag.due (x : Tag) (t : Fin 32) : List Instr :=
  match x with
  | .free => []
  | .pending _ d => if d = 0 then [.deadlinePass t] else []
  | .quarantined _ _ q => if q = 0 then [.quarantineTimeout t] else []

/-- The watchdog's period has run out. -/
def Supervisor.due (x : Supervisor) : List Instr := if x.running && decide (x.periodMs ≤ x.elapsed) then [.watchdogExpiry] else []

/-- The interval of a spacing entry runs out at exactly this millisecond. -/
def Coordinator.runsOut (s : Coordinator) (e : SpacingEntry) : Bool :=
  s.cutter.spacing.startOf e == some s.timing[spacingNumber e]

/-- One expiry for each start event an interval of which runs out at this millisecond: a second one would find the same record (R85; log 31). -/
def Coordinator.spacingDue (s : Coordinator) : List Instr :=
  spacingStarts.filterMap fun es => (es.find? s.runsOut).map .spacingExpiry

/-- The hold-off of a due NOTICE has run out. -/
def Notices.holdOffDue (n : Notices) : List Instr := if n.due && decide (n.holdOff = n.since) then [.holdOffExpiry] else []

/-- Everything that falls due with the millisecond just counted: the hold-off and the spacing entries, then the ports WEST then EAST, the tags in order, the watchdog.
The hold-off and the spacing entries come first, so that each finds its time as the tick left it, not started again by the NOTICE or the Knife Cut of a row before it (R85, R204; log 31). -/
def Coordinator.due (s : Coordinator) : List Instr :=
  s.notices.holdOffDue ++ s.spacingDue ++ s.west.due .west ++ s.east.due .east ++
    (allTags.flatMap fun t => (s.tags[t]).due t) ++ s.sup.due

end Sys2Proof.Machine
end

