-- ==== Sys2Proof/Machine/Events.lean ====
section
/-! DEFINITION. The meanings of the commands that are no requests: resets, input lines, received frames, link ports, expiries, placements. -/

namespace Sys2Proof.Machine

/-- A command's answer: the next state, its queue as it was. -/
def answer (s : State) (b : Coordinator) : Host.Outcome State Fault Refusal := .next { s with blk := b }

/-! ### Resets (R18, R46, R68, R99, R124, R140, R166, R183, R194, R195, R207) -/

/-- Every block takes its reset state; the input lines are outside the part (log 2). -/
def execPowerOn (s : State) : Host.Outcome State Fault Refusal := answer s (Coordinator.resetWith s.blk.inputs s.blk.draws)

/-- A pulse on RSTN has the same effect as power-on. -/
def execRstnPulse (s : State) : Host.Outcome State Fault Refusal := answer s (Coordinator.resetWith s.blk.inputs s.blk.draws)

/-! ### Input lines (R136, R151, R152, R153) -/

def Coordinator.modInputs (s : Coordinator) (f : Inputs → Inputs) : Coordinator := { s with inputs := f s.inputs }

/-- The cutter is not at rest when CURTAIN becomes ASSERTED (R152). -/
def Coordinator.notAtRest (s : Coordinator) : Bool := s.cutter.clamp != .up || s.busy .press || s.busy .rotator

/-- ESTOP asserted is a cause of SAFE (R151). -/
def execEstopAsserted (s : State) : Host.Outcome State Fault Refusal :=
  if s.blk.inputs.estop then answer s s.blk
  else answer s ((s.blk.modInputs fun x => { x with estop := true }).enterSafe .estop).finish

/-- ESTOP cleared changes no mode (R151). -/
def execEstopCleared (s : State) : Host.Outcome State Fault Refusal :=
  if s.blk.inputs.estop then answer s (s.blk.modInputs fun x => { x with estop := false }).finish else answer s s.blk

/-- CURTAIN asserted is a cause of SAFE with the cutter not at rest (R152). -/
def execCurtainAsserted (s : State) : Host.Outcome State Fault Refusal :=
  if s.blk.inputs.curtain then answer s s.blk
  else
    let t := s.blk.modInputs fun x => { x with curtain := true }
    answer s (if s.blk.notAtRest then t.enterSafe .curtain else t).finish

/-- CURTAIN cleared changes no mode; the work withheld may go on (R88, R152). -/
def execCurtainCleared (s : State) : Host.Outcome State Fault Refusal :=
  if s.blk.inputs.curtain then answer s (s.blk.modInputs fun x => { x with curtain := false }).finish else answer s s.blk

/-- DOOR asserted is a cause of HOLD in RUN (R153). -/
def execDoorAsserted (s : State) : Host.Outcome State Fault Refusal :=
  if s.blk.inputs.door then answer s s.blk
  else answer s ((s.blk.modInputs fun x => { x with door := true }).causeHold .door).finish

/-- DOOR cleared changes no mode (R153). -/
def execDoorCleared (s : State) : Host.Outcome State Fault Refusal :=
  if s.blk.inputs.door then answer s (s.blk.modInputs fun x => { x with door := false }).finish else answer s s.blk

/-- PRESS_OK rises: a grant decision is made if a request flag is set (R136). -/
def execPressOkRise (s : State) : Host.Outcome State Fault Refusal :=
  if s.blk.inputs.pressOk then answer s s.blk else answer s (s.blk.modInputs fun x => { x with pressOk := true }).finish

/-- PRESS_OK falls: a holder keeps its grant (R136). -/
def execPressOkFall (s : State) : Host.Outcome State Fault Refusal :=
  if s.blk.inputs.pressOk then answer s (s.blk.modInputs fun x => { x with pressOk := false }).finish else answer s s.blk

/-! ### Received frames (R169 to R174, R188, R189, R209, R210) -/

/-- REQUEST_RECEIVED (R170, R171). -/
def execRequestReceived (p : Port) (d src : Byte) (payload : List Byte) (s : State) : Host.Outcome State Fault Refusal :=
  answer s (s.blk.receiveGood p ⟨d, src, kindRequest, payload⟩)

/-- REPORT_DONE (R106, R107, R109, R110). -/
def execReportDone (p : Port) (d src tag kind : Byte) (data : List Byte) (s : State) : Host.Outcome State Fault Refusal :=
  answer s (s.blk.receiveGood p ⟨d, src, kindReport, tag :: kind :: 1 :: data⟩)

/-- REPORT_FAULT (R106, R108, R109, R110). -/
def execReportFault (p : Port) (d src tag kind fault : Byte) (s : State) : Host.Outcome State Fault Refusal :=
  answer s (s.blk.receiveGood p ⟨d, src, kindReport, [tag, kind, 2, fault]⟩)

/-- REPORT_ABANDONED (R106, R109, R110). -/
def execReportAbandoned (p : Port) (d src tag kind : Byte) (s : State) : Host.Outcome State Fault Refusal :=
  answer s (s.blk.receiveGood p ⟨d, src, kindReport, [tag, kind, 3]⟩)

/-- READY (R25, R53, R65, R73, R172). -/
def execReady (p : Port) (d src : Byte) (s : State) : Host.Outcome State Fault Refusal :=
  answer s (s.blk.receiveGood p ⟨d, src, kindEvent, [1]⟩)

/-- CALL (R54, R59, R172). -/
def execCall (p : Port) (d src : Byte) (s : State) : Host.Outcome State Fault Refusal :=
  answer s (s.blk.receiveGood p ⟨d, src, kindEvent, [2]⟩)

/-- ATTENTION (R172, R203). -/
def execAttention (p : Port) (d src cause : Byte) (s : State) : Host.Outcome State Fault Refusal :=
  answer s (s.blk.receiveGood p ⟨d, src, kindEvent, [3, cause]⟩)

/-- MANUAL_RECEIVED (R174). -/
def execManualReceived (p : Port) (d src : Byte) (payload : List Byte) (s : State) : Host.Outcome State Fault Refusal :=
  answer s (s.blk.receiveGood p ⟨d, src, kindManual, payload⟩)

/-- DATA_RECEIVED (R170, R173). -/
def execDataReceived (p : Port) (d src : Byte) (payload : List Byte) (s : State) : Host.Outcome State Fault Refusal :=
  answer s (s.blk.receiveGood p ⟨d, src, kindData, payload⟩)

/-- FRAME_FILTERED (R169, R170). -/
def execFrameFiltered (p : Port) (f : Frame) (s : State) : Host.Outcome State Fault Refusal :=
  answer s (s.blk.receiveGood p f)

/-- FRAME_BAD_CHECK (R169, R189, R209). -/
def execFrameBadCheck (p : Port) (bytes : List Byte) (s : State) : Host.Outcome State Fault Refusal :=
  answer s (s.blk.receiveBytes p bytes)

/-- EARLY_FRAME_DISCARD (R188). -/
def execEarlyFrameDiscard (p : Port) (rx : Reception) (s : State) : Host.Outcome State Fault Refusal :=
  match rx with
  | .bad => answer s (s.blk.receiveBad p)
  | .good f => answer s (s.blk.receiveGood p f)

/-- HELLO_RECEIVED (R188, R189). -/
def execHelloReceived (p : Port) (d src : Byte) (payload : List Byte) (s : State) : Host.Outcome State Fault Refusal :=
  answer s (s.blk.receiveGood p ⟨d, src, kindHello, payload⟩)

/-- EVENT_DISCARDED (R172, R210). -/
def execEventDiscarded (p : Port) (d src : Byte) (payload : List Byte) (s : State) : Host.Outcome State Fault Refusal :=
  answer s (s.blk.receiveGood p ⟨d, src, kindEvent, payload⟩)

/-- REPORT_MALFORMED (R110, R210). -/
def execReportMalformed (p : Port) (d src : Byte) (payload : List Byte) (s : State) : Host.Outcome State Fault Refusal :=
  answer s (s.blk.receiveGood p ⟨d, src, kindReport, payload⟩)

/-! ### Link ports (R181, R185 to R189) -/

/-- HELLO_SEND: in VERIFY a HELLO is sent (R188). -/
def execHelloSend (p : Port) (s : State) : Host.Outcome State Fault Refusal := answer s (s.blk.modLink p Link.sendHello)

/-- ALIGN_PATTERN_FOUND: ALIGN to LOCK (R186). -/
def execAlignPatternFound (p : Port) (s : State) : Host.Outcome State Fault Refusal :=
  answer s (s.blk.modLink p fun l => if l.state = .align then { l with state := .lock, window := 0 } else l)

/-- RECEIVER_LOCK: LOCK to VERIFY with lock-ignore clear (R187). -/
def execReceiverLock (p : Port) (s : State) : Host.Outcome State Fault Refusal :=
  answer s (s.blk.modLink p fun l => if l.state = .lock ∧ l.active.lockIgnore = false then l.startVerify else l)

/-- LOCK_LOST: UP to DOWN with lock-ignore clear (R189). -/
def execLockLost (p : Port) (s : State) : Host.Outcome State Fault Refusal :=
  answer s (if (s.blk.link p).active.lockIgnore then s.blk else s.blk.loseIfUp p .lockLost)

/-- ALIGN_SEEN: UP to DOWN (R189). -/
def execAlignSeen (p : Port) (s : State) : Host.Outcome State Fault Refusal := answer s (s.blk.loseIfUp p .alignSeen)

/-- TRANSMIT_DONE (R181, R192, R196). -/
def execTransmitDone (p : Port) (s : State) : Host.Outcome State Fault Refusal := answer s (s.blk.transmitted p)

/-- RETRY_DELAY_EXPIRY: DOWN to ALIGN (R185). -/
def execRetryDelayExpiry (p : Port) (s : State) : Host.Outcome State Fault Refusal :=
  answer s (s.blk.modLink p fun l => if l.state = .down then l.startAlign else l)

/-- BRING_UP_LIMIT_EXPIRY: a bring-up failure in ALIGN, LOCK or VERIFY (R185). -/
def execBringUpLimitExpiry (p : Port) (s : State) : Host.Outcome State Fault Refusal :=
  answer s (s.blk.modLink p fun l => if l.state = .align ∨ l.state = .lock ∨ l.state = .verify then l.failBringUp else l)

/-- ALIGN_WINDOW_EXPIRY: a new window begins (R186). -/
def execAlignWindowExpiry (p : Port) (s : State) : Host.Outcome State Fault Refusal :=
  answer s (s.blk.modLink p fun l => if l.state = .align then { l with window := 0 } else l)

/-- LOCK_WAIT_EXPIRY: VERIFY with lock-ignore set, a bring-up failure otherwise (R187). -/
def execLockWaitExpiry (p : Port) (s : State) : Host.Outcome State Fault Refusal :=
  answer s (s.blk.modLink p fun l =>
    if l.state = .lock then (if l.active.lockIgnore then l.startVerify else l.failBringUp) else l)

/-- VERIFY_WINDOW_EXPIRY: a bring-up failure (R188). -/
def execVerifyWindowExpiry (p : Port) (s : State) : Host.Outcome State Fault Refusal :=
  answer s (s.blk.modLink p fun l => if l.state = .verify then l.failBringUp else l)

/-! ### Expiries (R85, R111, R116, R156, R204) -/

/-- DEADLINE_PASS (R111, R155). -/
def execDeadlinePass (t : Fin 32) (s : State) : Host.Outcome State Fault Refusal := answer s (s.blk.deadlinePasses t)

/-- QUARANTINE_TIMEOUT (R116). -/
def execQuarantineTimeout (t : Fin 32) (s : State) : Host.Outcome State Fault Refusal := answer s (s.blk.quarantineEnds t)

/-- WATCHDOG_EXPIRY: a failure while the watchdog runs (R156, R158). -/
def execWatchdogExpiry (s : State) : Host.Outcome State Fault Refusal :=
  if s.blk.sup.running then answer s s.blk.watchdogFailure.finish else answer s s.blk

/-- SPACING_EXPIRY: the interval has run out, and the waiting order is tested again (R74, R85). A row the tick has queued finds the time already there (log 31); one sent from outside is taken at its word (log 8). -/
def execSpacingExpiry (e : SpacingEntry) (s : State) : Host.Outcome State Fault Refusal :=
  answer s (s.blk.modCutter fun c => { c with spacing := c.spacing.expire e s.blk.timing[spacingNumber e] }).finish

/-- HOLD_OFF_EXPIRY: the hold-off has run out, and a due NOTICE may be placed (R204). A row the tick has queued finds the time already there (log 31); one sent from outside is taken at its word (log 8). -/
def execHoldOffExpiry (s : State) : Host.Outcome State Fault Refusal :=
  answer s ({ s.blk with notices := { s.blk.notices with since := max s.blk.notices.since s.blk.notices.holdOff } }).placeNotice

/-! ### Placements (R104, R179, R204) -/

/-- NOTICE_PLACE (R204). -/
def execNoticePlace (s : State) : Host.Outcome State Fault Refusal := answer s s.blk.placeNotice

/-- IDLE_PLACE (R179). -/
def execIdlePlace (s : State) : Host.Outcome State Fault Refusal := answer s s.blk.placeIdles

/-- ORDER_ISSUE: the issue request list is served, and the event ends as every other (R102 to R104, R204). -/
def execOrderIssue (s : State) : Host.Outcome State Fault Refusal := answer s s.blk.serve.finish

end Sys2Proof.Machine
end

