-- ==== Sys2Proof/Machine/Requests.lean ====
section
/-! DEFINITION. The meanings of the requests: the Agent carries out the front request of its queue if it is of the row's kind (R196; log 11). -/

namespace Sys2Proof.Machine

/-- A request of no known kind is answered BAD_ARG (R197). -/
def execRequestKindUnknown (s : State) : Host.Outcome State Fault Refusal := answer s (s.blk.carryOut .unknown)

/-- Program Open (R6). -/
def execProgramOpen (s : State) : Host.Outcome State Fault Refusal := answer s (s.blk.carryOut .programOpen)

/-- Step Write (R7). -/
def execStepWrite (s : State) : Host.Outcome State Fault Refusal := answer s (s.blk.carryOut .stepWrite)

/-- Program Close (R8 to R11). -/
def execProgramClose (s : State) : Host.Outcome State Fault Refusal := answer s (s.blk.carryOut .programClose)

/-- Program Erase (R12). -/
def execProgramErase (s : State) : Host.Outcome State Fault Refusal := answer s (s.blk.carryOut .programErase)

/-- Read Program (R14 to R16). -/
def execReadProgram (s : State) : Host.Outcome State Fault Refusal := answer s (s.blk.carryOut .readProgram)

/-- Lift Admit (R27). -/
def execLiftAdmit (s : State) : Host.Outcome State Fault Refusal := answer s (s.blk.carryOut .liftAdmit)

/-- Lift Cancel (R41, R42). -/
def execLiftCancel (s : State) : Host.Outcome State Fault Refusal := answer s (s.blk.carryOut .liftCancel)

/-- Lift Resume (R37 to R40, R92). -/
def execLiftResume (s : State) : Host.Outcome State Fault Refusal := answer s (s.blk.carryOut .liftResume)

/-- Read Lift (R44). -/
def execReadLift (s : State) : Host.Outcome State Fault Refusal := answer s (s.blk.carryOut .readLift)

/-- Read Line (R45). -/
def execReadLine (s : State) : Host.Outcome State Fault Refusal := answer s (s.blk.carryOut .readLine)

/-- Pile Declare (R51). -/
def execPileDeclare (s : State) : Host.Outcome State Fault Refusal := answer s (s.blk.carryOut .pileDeclare)

/-- Read Piles (R52). -/
def execReadPiles (s : State) : Host.Outcome State Fault Refusal := answer s (s.blk.carryOut .readPiles)

/-- Chop Run (R96, R97). -/
def execChopRun (s : State) : Host.Outcome State Fault Refusal := answer s (s.blk.carryOut .chopRun)

/-- Load Timing (R122). -/
def execLoadTiming (s : State) : Host.Outcome State Fault Refusal := answer s (s.blk.carryOut .loadTiming)

/-- Read Timing (R123). -/
def execReadTiming (s : State) : Host.Outcome State Fault Refusal := answer s (s.blk.carryOut .readTiming)

/-- Read Orders (R120). -/
def execReadOrders (s : State) : Host.Outcome State Fault Refusal := answer s (s.blk.carryOut .readOrders)

/-- Read Fault Record (R118). -/
def execReadFaultRecord (s : State) : Host.Outcome State Fault Refusal := answer s (s.blk.carryOut .readFaultRecord)

/-- Clear Fault Record (R119). -/
def execClearFaultRecord (s : State) : Host.Outcome State Fault Refusal := answer s (s.blk.carryOut .clearFaultRecord)

/-- Set Pressure (R139). -/
def execSetPressure (s : State) : Host.Outcome State Fault Refusal := answer s (s.blk.carryOut .setPressure)

/-- Refresh (R157). -/
def execRefresh (s : State) : Host.Outcome State Fault Refusal := answer s (s.blk.carryOut .refresh)

/-- Set Supervision (R159). -/
def execSetSupervision (s : State) : Host.Outcome State Fault Refusal := answer s (s.blk.carryOut .setSupervision)

/-- Read Challenge (R160). -/
def execReadChallenge (s : State) : Host.Outcome State Fault Refusal := answer s (s.blk.carryOut .readChallenge)

/-- Release Safe (R150, R161). -/
def execReleaseSafe (s : State) : Host.Outcome State Fault Refusal := answer s (s.blk.carryOut .releaseSafe)

/-- Enter Setup (R161, R162). -/
def execEnterSetup (s : State) : Host.Outcome State Fault Refusal := answer s (s.blk.carryOut .enterSetup)

/-- Leave Setup (R163). -/
def execLeaveSetup (s : State) : Host.Outcome State Fault Refusal := answer s (s.blk.carryOut .leaveSetup)

/-- Hold Line (R164). -/
def execHoldLine (s : State) : Host.Outcome State Fault Refusal := answer s (s.blk.carryOut .holdLine)

/-- Resume Line (R165). -/
def execResumeLine (s : State) : Host.Outcome State Fault Refusal := answer s (s.blk.carryOut .resumeLine)

/-- Set Role (R177). -/
def execSetRole (s : State) : Host.Outcome State Fault Refusal := answer s (s.blk.carryOut .setRole)

/-- Set Forward (R178). -/
def execSetForward (s : State) : Host.Outcome State Fault Refusal := answer s (s.blk.carryOut .setForward)

/-- Set Port (R192). -/
def execSetPort (s : State) : Host.Outcome State Fault Refusal := answer s (s.blk.carryOut .setPort)

/-- Read Identity (R200). -/
def execReadIdentity (s : State) : Host.Outcome State Fault Refusal := answer s (s.blk.carryOut .readIdentity)

/-- Read Status (R201). -/
def execReadStatus (s : State) : Host.Outcome State Fault Refusal := answer s (s.blk.carryOut .readStatus)

/-- Set Notice (R205). -/
def execSetNotice (s : State) : Host.Outcome State Fault Refusal := answer s (s.blk.carryOut .setNotice)

/-- Clear Notice (R206). -/
def execClearNotice (s : State) : Host.Outcome State Fault Refusal := answer s (s.blk.carryOut .clearNotice)

/-- Line Reset (R161, R202). -/
def execLineReset (s : State) : Host.Outcome State Fault Refusal := answer s (s.blk.carryOut .lineReset)

end Sys2Proof.Machine
end

