-- ==== Sys2Proof/Machine/Dispatch.lean ====
section
/-! DEFINITION. The meaning of each command, one arm a constructor. -/

namespace Sys2Proof.Machine

/-- The effect of a command on everything but the queue. -/
def exec (i : Instr) (s : State) : Host.Outcome State Fault Refusal :=
  match i with
    | .powerOn => Sys2Proof.Machine.execPowerOn s
    | .rstnPulse => Sys2Proof.Machine.execRstnPulse s
    | .estopAsserted => Sys2Proof.Machine.execEstopAsserted s
    | .estopCleared => Sys2Proof.Machine.execEstopCleared s
    | .curtainAsserted => Sys2Proof.Machine.execCurtainAsserted s
    | .curtainCleared => Sys2Proof.Machine.execCurtainCleared s
    | .doorAsserted => Sys2Proof.Machine.execDoorAsserted s
    | .doorCleared => Sys2Proof.Machine.execDoorCleared s
    | .pressOkRise => Sys2Proof.Machine.execPressOkRise s
    | .pressOkFall => Sys2Proof.Machine.execPressOkFall s
    | .requestReceived port dst src payload => Sys2Proof.Machine.execRequestReceived port dst src payload s
    | .reportDone port dst src tag kind data => Sys2Proof.Machine.execReportDone port dst src tag kind data s
    | .reportFault port dst src tag kind fault => Sys2Proof.Machine.execReportFault port dst src tag kind fault s
    | .reportAbandoned port dst src tag kind => Sys2Proof.Machine.execReportAbandoned port dst src tag kind s
    | .ready port dst src => Sys2Proof.Machine.execReady port dst src s
    | .call port dst src => Sys2Proof.Machine.execCall port dst src s
    | .attention port dst src cause => Sys2Proof.Machine.execAttention port dst src cause s
    | .manualReceived port dst src payload => Sys2Proof.Machine.execManualReceived port dst src payload s
    | .dataReceived port dst src payload => Sys2Proof.Machine.execDataReceived port dst src payload s
    | .frameFiltered port frame => Sys2Proof.Machine.execFrameFiltered port frame s
    | .frameBadCheck port bytes => Sys2Proof.Machine.execFrameBadCheck port bytes s
    | .earlyFrameDiscard port rx => Sys2Proof.Machine.execEarlyFrameDiscard port rx s
    | .helloReceived port dst src payload => Sys2Proof.Machine.execHelloReceived port dst src payload s
    | .helloSend port => Sys2Proof.Machine.execHelloSend port s
    | .alignPatternFound port => Sys2Proof.Machine.execAlignPatternFound port s
    | .receiverLock port => Sys2Proof.Machine.execReceiverLock port s
    | .lockLost port => Sys2Proof.Machine.execLockLost port s
    | .alignSeen port => Sys2Proof.Machine.execAlignSeen port s
    | .transmitDone port => Sys2Proof.Machine.execTransmitDone port s
    | .retryDelayExpiry port => Sys2Proof.Machine.execRetryDelayExpiry port s
    | .bringUpLimitExpiry port => Sys2Proof.Machine.execBringUpLimitExpiry port s
    | .alignWindowExpiry port => Sys2Proof.Machine.execAlignWindowExpiry port s
    | .lockWaitExpiry port => Sys2Proof.Machine.execLockWaitExpiry port s
    | .verifyWindowExpiry port => Sys2Proof.Machine.execVerifyWindowExpiry port s
    | .deadlinePass tag => Sys2Proof.Machine.execDeadlinePass tag s
    | .quarantineTimeout tag => Sys2Proof.Machine.execQuarantineTimeout tag s
    | .watchdogExpiry => Sys2Proof.Machine.execWatchdogExpiry s
    | .spacingExpiry entry => Sys2Proof.Machine.execSpacingExpiry entry s
    | .holdOffExpiry => Sys2Proof.Machine.execHoldOffExpiry s
    | .noticePlace => Sys2Proof.Machine.execNoticePlace s
    | .idlePlace => Sys2Proof.Machine.execIdlePlace s
    | .orderIssue => Sys2Proof.Machine.execOrderIssue s
    | .requestKindUnknown => Sys2Proof.Machine.execRequestKindUnknown s
    | .programOpen => Sys2Proof.Machine.execProgramOpen s
    | .stepWrite => Sys2Proof.Machine.execStepWrite s
    | .programClose => Sys2Proof.Machine.execProgramClose s
    | .programErase => Sys2Proof.Machine.execProgramErase s
    | .readProgram => Sys2Proof.Machine.execReadProgram s
    | .liftAdmit => Sys2Proof.Machine.execLiftAdmit s
    | .liftCancel => Sys2Proof.Machine.execLiftCancel s
    | .liftResume => Sys2Proof.Machine.execLiftResume s
    | .readLift => Sys2Proof.Machine.execReadLift s
    | .readLine => Sys2Proof.Machine.execReadLine s
    | .pileDeclare => Sys2Proof.Machine.execPileDeclare s
    | .readPiles => Sys2Proof.Machine.execReadPiles s
    | .chopRun => Sys2Proof.Machine.execChopRun s
    | .loadTiming => Sys2Proof.Machine.execLoadTiming s
    | .readTiming => Sys2Proof.Machine.execReadTiming s
    | .readOrders => Sys2Proof.Machine.execReadOrders s
    | .readFaultRecord => Sys2Proof.Machine.execReadFaultRecord s
    | .clearFaultRecord => Sys2Proof.Machine.execClearFaultRecord s
    | .setPressure => Sys2Proof.Machine.execSetPressure s
    | .refresh => Sys2Proof.Machine.execRefresh s
    | .setSupervision => Sys2Proof.Machine.execSetSupervision s
    | .readChallenge => Sys2Proof.Machine.execReadChallenge s
    | .releaseSafe => Sys2Proof.Machine.execReleaseSafe s
    | .enterSetup => Sys2Proof.Machine.execEnterSetup s
    | .leaveSetup => Sys2Proof.Machine.execLeaveSetup s
    | .holdLine => Sys2Proof.Machine.execHoldLine s
    | .resumeLine => Sys2Proof.Machine.execResumeLine s
    | .setRole => Sys2Proof.Machine.execSetRole s
    | .setForward => Sys2Proof.Machine.execSetForward s
    | .setPort => Sys2Proof.Machine.execSetPort s
    | .readIdentity => Sys2Proof.Machine.execReadIdentity s
    | .readStatus => Sys2Proof.Machine.execReadStatus s
    | .setNotice => Sys2Proof.Machine.execSetNotice s
    | .clearNotice => Sys2Proof.Machine.execClearNotice s
    | .lineReset => Sys2Proof.Machine.execLineReset s
    | .eventDiscarded port dst src payload => Sys2Proof.Machine.execEventDiscarded port dst src payload s
    | .reportMalformed port dst src payload => Sys2Proof.Machine.execReportMalformed port dst src payload s

end Sys2Proof.Machine
end

