-- ==== Sys2Proof/Machine/Step.lean ====
section
/-! DEFINITION. One step: the command at the front of the queue, or one millisecond of the timebase on an empty queue. -/

namespace Sys2Proof.Machine

/-- On an empty queue one millisecond passes, and the expiries that fall due are queued (DESIGN CHOICE, log 7). -/
def idleStep (s : State) : State :=
  let b := s.blk.tick
  { blk := b, pending := b.due }

/-- One step of the machine. -/
def step (s : State) : Host.Outcome State Fault Refusal :=
  match s.pending with
  | [] => .next (idleStep s)
  | c :: rest => exec c { s with pending := rest }

/-- The state with the command a word spells at the front of its queue; no word spells one. -/
def State.withFetchWord (s : State) (nbits w : Nat) : State :=
  match decodeTableWord nbits w with
  | some c => { s with pending := c :: s.pending }
  | none => s

end Sys2Proof.Machine
end

