-- ==== Sys2Proof/Safety.lean ====
section
/-! DEFINITION. The words the statements are said with: how a command completes, and the laws every step keeps. -/

namespace Sys2Proof.Machine

/-! ### Completion -/

/-- The command answers a next state in which the part is b and the queue is as it was. -/
def completes (c : Instr) (s : State) (b : Coordinator) : Prop := exec c s = .next { s with blk := b }

/-- The Agent can carry out its front request: of kind code, with this number and these arguments, from the address src, the requests rest behind it, and with room for the ANSWER in the WEST own-frame queue (R196). -/
def Coordinator.asks (b : Coordinator) (code : Nat) (number : Byte) (args : List Byte) (src : Nat) (rest : List Frame) : Prop :=
  ∃ f, b.agent = f :: rest ∧ f.payload = byte code :: number :: args ∧ frameFrom f = src ∧ b.west.roomFor 1 = true

/-- The part with the ANSWER to a request placed (R196, R197). -/
def Coordinator.answering (b : Coordinator) (src code : Nat) (number : Byte) (r : Result) (data : List Byte) : Coordinator :=
  b.place .west (answerFrame src (byte code) number r data)

/-- The part after the request has left the Agent's queue. -/
def Coordinator.behind (b : Coordinator) (rest : List Frame) : Coordinator := { b with agent := rest }

/-- The command carries out a request of kind code with these arguments wherever the condition holds: the request leaves the Agent's queue, the effect is taken, and the ANSWER with the result and the data of the state before is placed; nothing else happens (R196, R197). -/
def carried (c : Instr) (code : Nat) (args : List Byte) (cond : Coordinator → Prop) (effect : Coordinator → Coordinator)
    (r : Result) (data : Coordinator → List Byte) : Prop :=
  ∀ s number src rest, s.blk.asks code number args src rest → cond s.blk →
    completes c s ((effect (s.blk.behind rest)).answering src code number r (data (s.blk.behind rest)))

/-- As carried, with the conditions of the other blocks tested again at the end of the event (R196; log 13). -/
def carriedThen (c : Instr) (code : Nat) (args : List Byte) (cond : Coordinator → Prop) (effect : Coordinator → Coordinator)
    (r : Result) (data : Coordinator → List Byte) : Prop :=
  ∀ s number src rest, s.blk.asks code number args src rest → cond s.blk →
    completes c s ((effect (s.blk.behind rest)).answering src code number r (data (s.blk.behind rest))).finish

/-- The use count of a slot by its number, 0 where there is none. -/
def Coordinator.useOf (b : Coordinator) (n : Nat) : Nat := ((b.slots[n]?).map Slot.useCount).getD 0

/-- The step record a Step Write carries in its fields, each present field in its range (R4); the positions of absent fields are not read. -/
def Step.writtenAs (st : Step) (k p q m c r a : Nat) : Prop :=
  match st with
  | .cut p' c' r' => k = 1 ∧ p' = p ∧ 2500 ≤ p ∧ p ≤ 165000 ∧ c' = c ∧ 1 ≤ c ∧ c ≤ 4 ∧ r = (if r' then 1 else 0)
  | .strip p' q' m' c' r' =>
    k = 2 ∧ p' = p ∧ 2500 ≤ p ∧ p ≤ 165000 ∧ q' = q ∧ 100 ≤ q ∧ q ≤ 50000 ∧ m' = m ∧ 2 ≤ m ∧ m ≤ 32 ∧ c' = c ∧ 1 ≤ c ∧ c ≤ 4 ∧
      r = (if r' then 1 else 0)
  | .rotate a' => k = 3 ∧ a'.degrees = a ∧ a ≠ 0
  | .pause => k = 4

/-- The last cut of a STRIP step lies at 2,500 units or more (R5). -/
def Step.lastCutInRange (st : Step) : Prop :=
  ∀ p q m c r, st = .strip p q m c r → (2500 : Int) ≤ p - (m - 1 : Nat) * q

/-- The kind of a step record as its first byte gives it: CUT 1, STRIP 2, ROTATE 3, PAUSE 4 (spec/11, section 11.6). -/
def Step.kindCode : Step → Nat
  | .cut _ _ _ => 1
  | .strip _ _ _ _ _ => 2
  | .rotate _ => 3
  | .pause => 4

/-- A frame with a good check has come to its end at a port that is UP: the bad-check run is 0 (R189). -/
def Coordinator.heard (b : Coordinator) (p : Port) : Coordinator := b.modLink p fun l => { l with badRun := 0 }

/-- A frame for the Coordinator alone has been received by a port that is UP and counted consumed (R170, R182). -/
def Coordinator.consumed (b : Coordinator) (p : Port) : Coordinator := (b.heard p).countRouter p RouterCounters.addConsumed

/-- A station's frame that reaches the block that owns it: the port UP, the destination the part itself, the source a single node. -/
def Coordinator.delivers (b : Coordinator) (p : Port) (d src : Byte) : Prop :=
  (b.link p).isUp = true ∧ addressOf d = Config.ownAddress ∧ addressOf src ≠ Config.broadcast ∧ addressOf src ≠ Config.ownAddress

/-- A report names this PENDING tag and matches its record (R106). -/
def Coordinator.reports (b : Coordinator) (src tag kind : Byte) (t : Fin 32) (r : OrderRecord) : Prop :=
  tag = byte t.val ∧ kind = byte r.order.kind.code ∧ b.roles.get r.order.role = some (addressOf src)

/-- What identifies a lift and no settling changes. -/
def Lift.identity (l : Lift) : Nat × Nat × Nat × Option Measured × Option Angle × Bool × Nat :=
  (l.id, l.slot, l.targetHeight, l.measured, l.orientation, l.uncertain, l.cutsMade)

/-- What identifies a pile and no settling changes. -/
def Pile.identity (p : Pile) : Nat × Bool × Nat × Nat × Nat × Option Nat :=
  (p.id, p.flip, p.declared, p.remaining, p.taken, p.heightLeft)

/-- The cause is among the pending notice causes (R203). -/
def Coordinator.shows (b : Coordinator) (c : Cause) : Prop := c.isIn b.notices.pending = true

/-- The order is PENDING on some tag. -/
def Coordinator.hasPending (b : Coordinator) (o : Order) : Prop := ∃ t : Fin 32, b.tags[t].pendingOrder = some o

/-- Every tag that is not FREE is as it was. -/
def Coordinator.keepsTags (b b' : Coordinator) : Prop := ∀ t : Fin 32, b.tags[t] ≠ .free → b'.tags[t] = b.tags[t]

/-- What the cell computer has loaded is as it was: programs, timing, roles, routes, and the settings of Arbiter, Notice Unit and ports. -/
def Coordinator.keepsSettings (b b' : Coordinator) : Prop :=
  b'.slots.map Slot.body = b.slots.map Slot.body ∧ b'.timing = b.timing ∧ b'.roles = b.roles ∧ b'.routes = b.routes ∧
  b'.arbiter.priority = b.arbiter.priority ∧ b'.arbiter.holdOver = b.arbiter.holdOver ∧ b'.arbiter.cap = b.arbiter.cap ∧
  b'.notices.mask = b.notices.mask ∧ b'.notices.holdOff = b.notices.holdOff ∧
  b'.west.staged = b.west.staged ∧ b'.east.staged = b.east.staged ∧ b'.lineTime = b.lineTime ∧ b'.draws = b.draws

/-- The faults and stale reports counted are as they were. -/
def Coordinator.keepsFaults (b b' : Coordinator) : Prop :=
  b'.orders.firstFault = b.orders.firstFault ∧ b'.orders.faultCount = b.orders.faultCount ∧
  b'.orders.staleCount = b.orders.staleCount

/-- The four cutter unit states and the recovery stage are as they were. -/
def Coordinator.keepsUnits (b b' : Coordinator) : Prop :=
  b'.cutter.clamp = b.cutter.clamp ∧ b'.cutter.knife = b.cutter.knife ∧ b'.cutter.gauge = b.cutter.gauge ∧
  b'.cutter.rotator = b.cutter.rotator ∧ b'.cutter.recovery = b.cutter.recovery

/-- A HALT is on its way out of a port: sent at once where the port was sending nothing, and pending before every frame otherwise (R147, R180, R181). -/
def Link.halting (l l' : Link) : Prop :=
  (l.sending = none → l'.sending = some ⟨haltFrame, false⟩) ∧ (l.sending ≠ none → l'.sending = l.sending ∧ l'.halt = true)

/-- SAFE entry has been made with the cause c (R146 to R148, R73, R114, R138). -/
def Coordinator.enteredSafe (b b' : Coordinator) (c : ModeCause) : Prop :=
  b'.sup.mode = .safe ∧ b'.sup.cause = c ∧ b'.sup.deferred = none ∧ b'.sup.running = false ∧ b'.sup.safeOutput = true ∧
  (∀ (t : Fin 32) r d, b.tags[t] = .pending r d → b'.tags[t] = .quarantined r .stopped b.timing[20]) ∧
  (∀ t : Fin 32, b.tags[t].pendingOrder = none → b'.tags[t] = b.tags[t]) ∧
  b'.arbiter.grant = none ∧ b'.arbiter.flags = ⟨false, false, false⟩ ∧ b'.arbiter.yield = false ∧ b'.cutter.holdOver = 0 ∧
  ((∃ o, b.hasPending o ∧ o.toCutterUnit = true) →
    b'.cutter.clamp = .unknown ∧ b'.cutter.knife = .unknown ∧ b'.cutter.gauge = .unknown ∧ b'.cutter.recovery = .clamp) ∧
  ((¬ ∃ o, b.hasPending o ∧ o.toCutterUnit = true) → b.keepsUnits b') ∧
  (b.west.isUp = true → b.west.halting b'.west) ∧ (b.east.isUp = true → b.east.halting b'.east) ∧
  b'.shows .modeChange ∧ b.keepsFaults b' ∧ b.keepsSettings b'

/-- The port has left UP with the loss cause c (R190, R191): its own part of the loss. -/
def Link.lost (l l' : Link) (c : LossCause) : Prop :=
  l'.state = .down ∧ l'.retryDelay = 100 ∧ l'.badRun = 0 ∧ l'.own = [] ∧ l'.forward = [] ∧ l'.sending = none ∧
  l'.halt = false ∧ l'.helloAnswer = false ∧ l'.burst = 0 ∧ l'.retrain = false ∧ l'.lastLoss = c ∧
  l'.counters.losses = min (l.counters.losses + 1) 65535 ∧
  l'.counters.queueDiscards =
    min (l.counters.queueDiscards + l.own.length + l.forward.length + (if l.sending = none then 0 else 1)) 65535 ∧
  l'.staged = l.staged ∧ l'.active = l.active

/-- A port has left UP (R190, R115, R154, R199, R179): the port, the tags behind it, the Supervisor's judgement, the Agent, the waiting Idles and the notice. The lifts of its orders are HELD with LINK, that of a Knife Cut uncertain, and on EAST the units of its orders UNKNOWN (R31, R32, R72, R91). -/
def Coordinator.lostPort (b b' : Coordinator) (p : Port) (c : LossCause) : Prop :=
  (b.link p).lost (b'.link p) c ∧
  (∀ (t : Fin 32) r d, b.tags[t] = .pending r d → r.port = p → b'.tags[t] = .quarantined r .link b.timing[20]) ∧
  (∀ t : Fin 32, b.tags[t].code = 2 → b'.tags[t] = b.tags[t]) ∧
  (b.sup.mode ≠ .safe → p = .east → (b.cutter.clamp ≠ .up ∨ b.busy .press = true) →
    b'.sup.mode = .safe ∧ b'.sup.cause = .link ∧ b'.sup.safeOutput = true) ∧
  (b.sup.mode = .run → (p = .west ∨ (b.cutter.clamp = .up ∧ b.busy .press = false)) → b.knifePending = false →
    b'.sup.mode = .hold ∧ b'.sup.cause = .link) ∧
  ((b.sup.mode = .hold ∨ b.sup.mode = .setup) → (p = .west ∨ (b.cutter.clamp = .up ∧ b.busy .press = false)) →
    b'.sup = b.sup) ∧
  (b.sup.mode = .safe → b'.sup = b.sup) ∧
  ((b.lifts.map Lift.id).Nodup → ∀ (t : Fin 32) r d, b.tags[t] = .pending r d → r.port = p →
    (∀ l ∈ b.lifts, r.order.lift = some l.id → l.state ∈ [LiftState.working, .passing, .clearing] →
      b'.shows .liftHeld ∧ ∃ x ∈ b'.lifts, x.id = l.id ∧ x.state = .held .link ∧ x.position = l.position ∧ x.dest = l.dest) ∧
    (∀ l ∈ b.lifts, r.order.lift = some l.id → r.order.kind = .knifeCut → ∃ x ∈ b'.lifts, x.id = l.id ∧ x.uncertain = true)) ∧
  (∀ (t : Fin 32) r d, b.tags[t] = .pending r d → r.port = p →
    (r.order.role = .gauge → b'.cutter.gauge = .unknown) ∧ (r.order.role = .press → b'.cutter.clamp = .unknown) ∧
    (r.order.kind = .knifeCut ∨ r.order.kind = .clampUp → b'.cutter.knife = .unknown) ∧
    (r.order.role = .rotator → b'.cutter.rotator = .unknown) ∧
    (r.order.toCutterUnit = true → b'.cutter.recovery = .clamp)) ∧
  (∀ w, b'.infeed.turnerIdle = some w ∨ b'.infeed.lifterIdle = some w → w.port ≠ p) ∧
  b'.agent = (if p = .west then [] else b.agent) ∧ b'.shows .portChange ∧ b.keepsFaults b' ∧ b.keepsSettings b'

/-! ### What the end or the issue of an order does to its lift and its pile -/

/-- The record takes the place of the one of its id. -/
def Coordinator.withLift (b : Coordinator) (x : Lift) : Coordinator := { b with lifts := b.lifts.map fun y => if y.id == x.id then x else y }

/-- The record takes the place of the one of its id. -/
def Coordinator.withPile (b : Coordinator) (x : Pile) : Coordinator := { b with piles := b.piles.map fun y => if y.id == x.id then x else y }

/-- The lift as it enters the step at its step index (R75). -/
def Coordinator.onEntry (b : Coordinator) (x : Lift) : Lift :=
  match b.currentStep x, x.chop with
  | some (.strip _ _ n _ _), some (k, c) =>
    if k = x.stepIndex then { x with runRemaining := min n c, chop := none } else { x with runRemaining := n }
  | some (.strip _ _ n _ _), none => { x with runRemaining := n }
  | _, _ => { x with runRemaining := 0 }

/-- A step of the lift is complete: it enters the next one, or has finished its program (R84). -/
def Coordinator.stepDone (b : Coordinator) (x : Lift) : Coordinator :=
  let y := { x with stepIndex := x.stepIndex + 1 }
  if y.stepIndex < b.stepCountOf y then { b.withLift (b.onEntry y) with cutter := { b.cutter with cutNumber := 0 } }
  else
    b.withLift { y with
      runRemaining := 0, state := if y.state = .working ∧ b.cutter.recovery = .clear then .ready else y.state }

/-- A cut of the lift is complete: the next cut of the run is in line, or the step is complete (R84). -/
def Coordinator.cutDone (b : Coordinator) (x : Lift) : Coordinator :=
  let c := { b with cutter := { b.cutter with stage := .none } }
  match b.currentStep x with
  | some (.strip _ _ _ _ _) =>
    if 0 < x.runRemaining then { c.withLift x with cutter := { c.cutter with cutNumber := c.cutter.cutNumber + 1 } }
    else c.stepDone x
  | _ => c.stepDone x

/-- The lift goes to work where it now stands, its handover at an end: at CUTTER it arrives and enters its step (R29, R75). -/
def Coordinator.handedOver (b : Coordinator) (x : Lift) : Coordinator :=
  let y := { x with dest := none, pair := none, state := .working }
  if y.position = .cutter then { b.withLift (b.onEntry y) with cutter := { b.cutter with stage := .none, cutNumber := 0 } }
  else b.withLift y

/-- The lift's record is gone, its slot's use count one lower, and LIFT_DONE is set (R36, R41, R42). -/
def Coordinator.withoutLift (b : Coordinator) (x : Lift) : Coordinator :=
  ({ b.modSlot x.slot fun y => { y with useCount := y.useCount - 1 } with
    lifts := b.lifts.filter fun y => y.id != x.id }).setCause .liftDone

/-- The rotator is READY where the station is the ROTATOR, whose order has ended with DONE (R71). -/
def Coordinator.heardFrom (b : Coordinator) (r : Role) : Coordinator :=
  { b with cutter := { b.cutter with rotator := if r = .rotator then .ready else b.cutter.rotator } }

/-- The DONE of the order on a tag is taken at a port: the tag becomes FREE, the effect is taken, and the event ends (a hold that a Knife Cut deferred acts, R145; then the model's finish, log 13). -/
def Coordinator.afterDone (b : Coordinator) (p : Port) (i : Fin 32) (effect : Coordinator → Coordinator) : Coordinator :=
  (effect { b.consumed p with tags := b.tags.set i .free }).settleDeferred.finish

/-- The recovery stage becomes CLEAR, and the cut in hand of the lift at CUTTER is settled: a cut stage SET, CLAMP or CUT starts it again, RELEASE completes it, and a lift WORKING with its program finished becomes READY (R95). -/
def Coordinator.recovered (b : Coordinator) : Coordinator :=
  let c := { b with cutter := { b.cutter with recovery := .clear } }
  match b.cutterLift with
  | none => c
  | some x =>
    if b.cutter.stage = .release then c.cutDone x
    else
      let again : CutStage := if b.cutter.cutTarget.map Gauge.known = some b.cutter.gauge then .clamp else .set
      let d := { c with cutter := { c.cutter with stage := if b.cutter.stage = .none then .none else again } }
      if b.stepCountOf x ≤ x.stepIndex ∧ x.state = .working then d.withLift { x with state := .ready } else d

/-- The FAULT of the order on a tag is taken at a port: the tag becomes FREE, the fault is recorded (R108, R117), the effect is taken, and the event ends as afterDone's. -/
def Coordinator.afterFault (b : Coordinator) (p : Port) (i : Fin 32) (o : Order) (k : FaultKind)
    (effect : Coordinator → Coordinator) : Coordinator :=
  (effect (({ b.consumed p with
    tags := b.tags.set i .free
    orders := { b.orders with
      firstFault := if b.orders.firstFault = none then some ⟨i.val, o, k, b.lineTime⟩ else b.orders.firstFault
      faultCount := min (b.orders.faultCount + 1) 255 } }).setCause .fault)).settleDeferred.finish

/-- The units the order concerns are UNKNOWN, the recovery stage is CLAMP, with a recovery order in flight overtaken (log 28), and a lift READY at CUTTER is WORKING there (R72, R84, R93). -/
def Coordinator.unitsLost (b : Coordinator) (o : Order) : Coordinator :=
  if o.toCutterUnit = false then b
  else { b with
    cutter := { b.cutter with
      gauge := if o.role = .gauge then .unknown else b.cutter.gauge
      clamp := if o.role = .press then .unknown else b.cutter.clamp
      knife := if o.role = .press ∧ o.kind ≠ .clampDown then .unknown else b.cutter.knife
      rotator := if o.role = .rotator then .unknown else b.cutter.rotator
      recovery := .clamp
      overtaken := b.cutter.overtaken || b.pendingOrders.any Order.isRecovery }
    lifts := b.lifts.map fun l => if l.state = .ready ∧ l.position = .cutter then { l with state := .working } else l }

/-- The lift once its order has ended without DONE, its state apart: the order's progress is ENDED, and the cut of a Knife Cut is uncertain (R30, R32, R43). -/
def Lift.endedBy (l : Lift) (o : Order) : Lift :=
  { l with
    uncertain := l.uncertain || o.kind == .knifeCut
    pair := l.pair.map fun (u, v) =>
      if o.kind = .pass ∨ (o.kind = .clear ∧ l.source.clearer = some o.role) then (.ended, v)
      else if o.kind = .receive ∨ o.kind = .clear then (u, .ended)
      else (u, v) }

/-- The applicable offset of a cut: by the orientation, +dx, +dy, −dx or −dy, and 0 where nothing has been measured (R76). -/
def Lift.cutOffset (l : Lift) : Int :=
  match l.measured with
  | none => 0
  | some m => match l.orientation.getD .a0 with | .a0 => m.dx | .a90 => m.dy | .a180 => -m.dx | .a270 => -m.dy

/-- An Idle to an address stands in a port's own-frame queue or is being sent, or waits for room there (R179). -/
def Coordinator.idles (b : Coordinator) (r : Role) (p : Port) (a : Nat) (reason : IdleReason) : Prop :=
  (⟨idleFrame a reason, false⟩ : OwnFrame) ∈ (b.link p).own ∨ (b.link p).sending = some ⟨idleFrame a reason, false⟩ ∨
  b.infeed.waiting r = some ⟨reason, p, a⟩

/-- The hold cause of an order that ends by a FAULT report or, none, by its deadline (R30, R32, R91). -/
def Order.lossCause (o : Order) : Option FaultKind → HoldCause
  | some k => if o.kind = .pass ∨ o.kind = .receive then .handover else .opFault o.kind k
  | none => if o.kind = .pass ∨ o.kind = .receive then .handover else .deadline

/-- The lift l is HELD as x with the cause c after its order has ended without DONE: it keeps its places and its work, the order's progress is ENDED, and the lift of a Knife Cut is uncertain (R30, R32, R43, R91). -/
def Lift.heldAs (l x : Lift) (c : HoldCause) (o : Order) : Prop :=
  x.id = l.id ∧ x.state = .held c ∧ x.position = l.position ∧ x.dest = l.dest ∧ x.measured = l.measured ∧
  x.orientation = l.orientation ∧ x.stepIndex = l.stepIndex ∧ x.runRemaining = l.runRemaining ∧ x.chop = l.chop ∧
  x.cutsMade = l.cutsMade ∧ (l.uncertain = true ∨ o.kind = .knifeCut → x.uncertain = true) ∧
  (∀ u v, l.pair = some (u, v) →
    (o.kind = .pass → ∃ w, x.pair = some (.ended, w) ∧ (w = v ∨ w = .ended)) ∧
    (o.kind = .receive → ∃ w, x.pair = some (w, .ended) ∧ (w = u ∨ w = .ended)) ∧
    (o.kind = .clear → l.source.clearer = some o.role → ∃ w, x.pair = some (.ended, w) ∧ (w = v ∨ w = .ended)) ∧
    (o.kind = .clear → l.source.clearer ≠ some o.role → ∃ w, x.pair = some (w, .ended) ∧ (w = u ∨ w = .ended)))

/-- What a FAULT report of kind k, or with none a passed deadline, does to the lift of its order (R30, R32, R33, R43, R64, R66, R91), and to the lift WORKING at CUTTER where it was a recovery order (R91).
A Take Lift FAULT with PILE_SHORT returns the lift to WAITING and makes the pile SHORT (R63): a LIFTER call outstanding may have it taken again in the same event. -/
def Coordinator.losesLift (b b' : Coordinator) (o : Order) (k : Option FaultKind) : Prop :=
  (∀ l ∈ b.lifts, o.lift = some l.id → (o.kind = .takeLift → k ≠ some .pileShort) →
    (l.state ∈ [LiftState.working, .passing, .clearing] →
      b'.shows .liftHeld ∧ ∃ x ∈ b'.lifts, l.heldAs x (o.lossCause k) o) ∧
    (∀ c, l.state = .held c → ∃ x ∈ b'.lifts, l.heldAs x c o)) ∧
  (∀ l, o.isRecovery = true → b.workingAtCutter = some l →
    b'.shows .liftHeld ∧ ∃ x ∈ b'.lifts, l.heldAs x (o.lossCause k) o) ∧
  (o.kind = .takeLift → k = some .pileShort →
    (∀ l ∈ b.lifts, o.lift = some l.id → ∃ x ∈ b'.lifts, x.id = l.id ∧
      ((x.state = .waiting ∧ x.position = .none) ∨ (b.infeed.lifterCall = true ∧ b'.liftBusy l.id = true))) ∧
    (∀ q, b.pileIn .feeding = some q → b'.shows .pileShort ∧
      ∃ y ∈ b'.piles, y.id = q.id ∧ y.state = .short ∧ y.remaining = q.remaining ∧ y.taken = q.taken ∧
        y.heightLeft = q.heightLeft ∧ (y.clear = some .notIssued ∨ y.clear = some .inFlight)))

/-- What the end of an order without DONE does to its pile (R56, R58, R65): where the TURNER's mark is set again, it may be sent the pile anew in the same event. -/
def Coordinator.losesPile (b b' : Coordinator) (o : Order) : Prop :=
  ∀ q ∈ b.piles, o.pile = some q.id →
    (o.kind = .turnPile → ∃ y ∈ b'.piles, y.identity = q.identity ∧
      ((y.state = .declared ∧ y.position = .none) ∨ (b.infeed.turnerMark = true ∧ b'.busy .turner = true))) ∧
    (∀ u v, q.state = .moving → q.move = some (u, v) →
      (o.kind = .presentPile → ∃ y ∈ b'.piles, y.identity = q.identity ∧
        (v = .inFlight → y.state = .moving ∧ y.position = q.position ∧ y.move = some (.ended, .inFlight)) ∧
        (v = .done → y.state = .feeding ∧ y.position = .lifter ∧ y.move = none) ∧
        (v ≠ .inFlight → v ≠ .done → (y.state = .turned ∧ y.position = .turner ∧ y.move = none) ∨
          (b.infeed.turnerMark = true ∧ b'.busy .turner = true))) ∧
      (o.kind = .acceptPile → ∃ y ∈ b'.piles, y.identity = q.identity ∧
        (u = .inFlight → y.state = .moving ∧ y.position = q.position ∧ y.move = some (.inFlight, .ended)) ∧
        (u ≠ .inFlight → (y.state = .turned ∧ y.position = .turner ∧ y.move = none) ∨
          (b.infeed.turnerMark = true ∧ b'.busy .turner = true)))) ∧
    (o.kind = .clearPlatform → q.state ∈ [PileState.empty, .short] →
      ∃ y ∈ b'.piles, y.identity = q.identity ∧ y.state = q.state ∧ y.clear = some .failed)

/-- The tag that an allocation mark lends next: the first FREE one counting upwards from the tag after the mark, going on from 31 to 0 (R104). -/
def lends (tags : Vector Tag 32) (mark : Nat) (i : Fin 32) : Prop :=
  tags[i] = .free ∧ ∀ k : Nat, k < (i.val + 31 - mark % 32) % 32 → tags[Fin.ofNat 32 (mark + 1 + k)] ≠ .free

/-- An order can be carried to its station, at the address a: assigned, routed to its segment, whose port is UP, and with no order PENDING (R103). -/
def Coordinator.reaches (b : Coordinator) (o : Order) (a : Nat) : Prop :=
  b.roles.get o.role = some a ∧ b.portOf a = some o.role.segment ∧ (b.link o.role.segment).state = .up ∧ b.busy o.role = false

/-- An order has been issued on the tag i: its record and deadline stand on the tag, and its ORDER frame, with the order check, waits to be sent to the address a or is being sent (R104, R105). -/
def Coordinator.issuedOn (b b' : Coordinator) (o : Order) (a : Nat) (i : Fin 32) : Prop :=
  b'.tags[i] = .pending ⟨o, o.role.segment⟩ b.timing[o.deadlineEntry] ∧
  let f : OwnFrame := ⟨⟨byte a, 63, 5, byte i.val :: byte o.kind.code :: (o.params ++
    [(byte i.val :: byte o.kind.code :: o.params).foldl (· ^^^ ·) 0])⟩, false⟩
  f ∈ (b'.link o.role.segment).own ∨ (b'.link o.role.segment).sending = some f

/-- What the issuer of an order, the ready mark of its station, and the Arbiter do in the event of issue (R25, R26, R42, R53, R55, R57, R61, R65, R82, R87, R129). -/
def Coordinator.tellsIssuer (b b' : Coordinator) (o : Order) : Prop :=
  (o.role = .turner → b'.infeed.turnerMark = false ∧ b'.infeed.turnerCall = false) ∧
  (o.role = .jogger → b'.tracker.jogger = false) ∧ (o.role = .rotator → b'.tracker.rotator = false) ∧
  (o.role = .outfeed → b'.tracker.outfeed = false) ∧
  (∀ h, o.hydraulic = some h → b'.arbiter.grant = some (h, .busy)) ∧
  (o.hydraulic = some .press → b'.cutter.holdOver = b.cutter.holdOver + 1) ∧
  (∀ l ∈ b.lifts, o.lift = some l.id →
    (o.kind = .pass → ∃ x ∈ b'.lifts, x.id = l.id ∧ x.state = .passing ∧ x.position = l.position ∧ x.dest = l.position.next ∧
      x.pair = some (.inFlight, .inFlight)) ∧
    (o.kind = .takeLift → b'.infeed.lifterCall = false ∧
      ∃ x ∈ b'.lifts, x.id = l.id ∧ x.state = .working ∧ x.position = .lifter) ∧
    (o.kind = .clear → ∃ x ∈ b'.lifts, x.id = l.id ∧ x.state = .clearing ∧ ∀ u v, l.pair = some (u, v) →
      (l.source.clearer = some o.role → ∃ w, x.pair = some (.inFlight, w)) ∧
      (l.source.clearer ≠ some o.role → ∃ w, x.pair = some (w, .inFlight))) ∧
    (o.kind = .knifeCut → b'.cutter.spacing.knifeIssue = some 0 ∧ b'.cutter.lastKnife = some (l.id, l.stepIndex))) ∧
  (∀ q ∈ b.piles, o.pile = some q.id →
    (o.kind = .turnPile → ∃ y ∈ b'.piles, y.identity = q.identity ∧ y.state = .turning ∧ y.position = .turner) ∧
    (o.kind = .presentPile → ∃ y ∈ b'.piles, y.identity = q.identity ∧ y.state = .moving ∧
      y.move = some (.inFlight, .inFlight)) ∧
    (o.kind = .clearPlatform → ∃ y ∈ b'.piles, y.identity = q.identity ∧ y.clear = some .inFlight))

/-- The forward step for an out-port: the frame is placed unchanged in its forwarded queue with the port it was received at, or dropped, and counted at that port (R173, R182). -/
def Coordinator.passedOn (b : Coordinator) (p : Port) (out : Option Port) (f : Frame) : Coordinator :=
  match out with
  | none => b.countRouter p RouterCounters.addNoRoute
  | some q =>
    if (b.link q).isUp = false then b.countRouter p RouterCounters.addNoRoute
    else if 16 ≤ (b.link q).forward.length then b.countRouter p RouterCounters.addQueueFull
    else (b.modLink q fun l => ({ l with forward := l.forward ++ [(⟨f, p⟩ : ForwardedFrame)] }).transmit).countRouter p
      RouterCounters.addForwarded

/-- A MANUAL frame is counted and dropped, and answered BLOCKED with the reason where the WEST own-frame queue has room (R174; the echoed kind: log 6). -/
def blocked (s : State) (d src : Byte) (payload : List Byte) (count : RouterCounters → RouterCounters) (reason : Byte) : Prop :=
  (s.blk.west.own.length < 24 → completes (.manualReceived .west d src payload) s
    (((s.blk.heard .west).countRouter .west count).place .west
      (answerFrame s.blk.roles.cell Config.blockedKind 0 .blocked [reason, byte (addressOf d)]))) ∧
  (24 ≤ s.blk.west.own.length →
    completes (.manualReceived .west d src payload) s ((s.blk.heard .west).countRouter .west count))

/-! ### Records as the reads spell them (spec/11, R208 and section 11.6) -/

/-- A flag as a byte, 1 when set (log 19). -/
def bit (b : Bool) : Byte := if b then 1 else 0

/-- Single bits in one byte, bit 0 first. -/
def bits (l : List Bool) : Byte := byte ((l.zipIdx.map fun (b, i) => if b then 2 ^ i else 0).sum)

/-- The lift record, 31 bytes; a field whose presence bit is clear is zero. -/
def Lift.layout (l : Lift) (place : Nat) : List Byte :=
  [byte l.id, byte l.slot, byte l.state.code, byte l.position.code,
    bits [l.measured.isSome, l.orientation.isSome, l.dest.isSome, l.pair.isSome, l.chop.isSome,
      match l.state with | .held _ => true | _ => false],
    byte ((l.dest.map Position.code).getD 0), byte ((l.pair.map fun q => q.1.code).getD 0),
    byte ((l.pair.map fun q => q.2.code).getD 0)] ++ be2 l.targetHeight ++
  be2 ((l.measured.map Measured.height).getD 0) ++ be2 (((l.measured.map Measured.dx).getD 0) % 65536).toNat ++
  be2 (((l.measured.map Measured.dy).getD 0) % 65536).toNat ++ be2 ((l.measured.map Measured.skew).getD 0) ++
  be2 ((l.orientation.map Angle.degrees).getD 0) ++ [byte l.stepIndex, byte l.runRemaining, bit l.uncertain] ++
  [byte ((l.chop.map Prod.fst).getD 0), byte ((l.chop.map Prod.snd).getD 0)] ++
  (match l.state with
    | .held (.opFault k f) => [0, byte k.code, byte f.code]
    | .held c => [byte c.code, 0, 0]
    | _ => [0, 0, 0]) ++
  be2 l.cutsMade ++ [byte place]

/-- The pile record, 13 bytes. -/
def Pile.layout (p : Pile) : List Byte :=
  [byte p.id, byte p.state.code, byte p.position.code, bit p.flip, byte p.declared, byte p.remaining, byte p.taken,
    bits [p.heightLeft.isSome, p.move.isSome, p.clear.isSome]] ++ be2 (p.heightLeft.getD 0) ++
  [byte ((p.move.map fun q => q.1.code).getD 0), byte ((p.move.map fun q => q.2.code).getD 0),
    byte ((p.clear.map ClearProgress.code).getD 0)]

/-- What Read Orders gives of an order record: from the station role to the use of pressure. -/
def OrderRecord.layout (r : OrderRecord) : List Byte :=
  [byte r.order.role.code, (match r.port with | .west => 0 | .east => 1), byte r.order.kind.code, bit r.order.subject.isSome,
    byte (r.order.subject.getD 0), byte r.order.params.length] ++
  (r.order.params ++ List.replicate (4 - r.order.params.length) 0) ++
  [bit (r.order.kind ∈ [OrderKind.turnPile, .takeLift, .clampDown, .knifeCut, .clampUp])]

/-- The LINE part of Read Status, 45 bytes. -/
def Coordinator.lineLayout (b : Coordinator) : List Byte :=
  [byte b.sup.mode.code, byte b.sup.cause.code, byte ((b.sup.deferred.map ModeCause.code).getD 255),
    bits [b.inputs.curtain, b.inputs.door, b.inputs.estop, b.inputs.pressOk], bit b.sup.running, byte b.sup.period.val,
    byte b.sup.style.code, byte b.sup.check.code, byte b.sup.escalation, byte b.sup.failures] ++
  be2 b.sup.elapsed ++ be2 b.sup.refreshCode.toNat ++
  [byte b.lifts.length, byte b.piles.length, byte (b.tags.toList.countP fun t => t.code == 1),
    byte (b.tags.toList.countP fun t => t.code == 2), byte b.orders.requests.length] ++
  be2 b.orders.staleCount ++ [byte b.orders.faultCount] ++
  [byte ((b.arbiter.grant.map fun g => g.1.holderCode).getD 0), byte ((b.arbiter.grant.map fun g => g.2.code).getD 0),
    byte b.cutter.clamp.code, byte b.cutter.knife.code] ++
  (match b.cutter.gauge with | .known g => 0 :: be4 g | .unknown => [1, 0, 0, 0, 0]) ++
  [byte b.cutter.rotator.code, byte b.cutter.recovery.code, byte b.agent.length] ++ be4 b.lineTime ++
  be2 b.notices.pending.toNat ++ be2 b.notices.mask.toNat ++ be2 b.notices.holdOff ++ [bit b.notices.due]

/-- The WEST or EAST part of Read Status. -/
def Link.layout (l : Link) : List Byte :=
  [byte l.state.code, byte l.rate.code, byte l.lastLoss.code] ++ be2 l.router.badCheck ++ be2 l.router.filter ++
  be2 l.router.noRoute ++ be2 l.router.queueFull ++ be2 l.router.consumed ++ be2 l.router.forwarded ++
  be2 l.counters.ups ++ be2 l.counters.losses ++ be2 l.counters.failures ++ be2 l.counters.earlyDiscards ++
  be2 l.counters.queueDiscards

/-- The codes of the fields these records carry, and the parameters of the orders (spec/11, sections 11.4 and 11.6). -/
def fieldCodes : Prop :=
  [Mode.run, .hold, .safe, .setup].map Mode.code = [0, 1, 2, 3] ∧
  [ModeCause.powerOn, .request, .estop, .curtain, .door, .watchdog, .link, .deadline, .resume].map ModeCause.code =
    [0, 1, 2, 3, 4, 5, 6, 7, 8] ∧
  [WatchdogStyle.timeout, .window].map WatchdogStyle.code = [0, 1] ∧
  [WatchdogCheck.plain, .rolling].map WatchdogCheck.code = [0, 1] ∧
  [Hydraulic.press, .turner, .lifter].map Hydraulic.holderCode = [1, 2, 3] ∧
  [Phase.granted, .busy, .kept].map Phase.code = [1, 2, 3] ∧
  [Clamp.up, .down, .unknown].map Clamp.code = [0, 1, 2] ∧ [Knife.top, .unknown].map Knife.code = [0, 1] ∧
  [Rotator.ready, .unknown].map Rotator.code = [0, 1] ∧
  [Recovery.clear, .clamp, .home, .rotator].map Recovery.code = [0, 1, 2, 3] ∧
  [PortState.down, .align, .lock, .verify, .up].map PortState.code = [0, 1, 2, 3, 4] ∧
  [Rate.r12, .r25, .r50].map Rate.code = [0, 1, 2] ∧
  [LossCause.none, .badRun, .lockLost, .alignSeen, .retrain].map LossCause.code = [0, 1, 2, 3, 4] ∧
  [Role.cell, .turner, .lifter, .jogger, .gauge, .press, .rotator, .outfeed].map Role.code = [0, 1, 2, 3, 4, 5, 6, 7] ∧
  [Position.none, .lifter, .jogger, .cutter, .outfeed].map Position.code = [0, 1, 2, 3, 4] ∧
  [LiftState.waiting, .working, .ready, .passing, .clearing].map LiftState.code = [0, 1, 2, 3, 5] ∧
  (∀ c, (LiftState.held c).code = 4) ∧
  [HoldCause.deadline, .handover, .skew, .range, .pause, .stopped, .link].map HoldCause.code = [1, 2, 3, 4, 5, 6, 7] ∧
  [Progress.notIssued, .inFlight, .done, .ended].map Progress.code = [0, 1, 2, 3] ∧
  [Angle.a0, .a90, .a180, .a270].map Angle.degrees = [0, 90, 180, 270] ∧
  [PileState.declared, .turning, .turned, .moving, .feeding, .empty, .short].map PileState.code = [0, 1, 2, 3, 4, 5, 6] ∧
  [PilePosition.none, .turner, .lifter].map PilePosition.code = [0, 1, 2] ∧
  [ClearProgress.notIssued, .inFlight, .failed].map ClearProgress.code = [0, 1, 2] ∧
  [QuarantineCause.deadline, .stopped, .link].map QuarantineCause.code = [0, 1, 2] ∧
  [FaultKind.check, .jam, .overload, .position, .pileShort, .notReady, .station, .deadline].map FaultKind.code =
    [1, 2, 3, 4, 5, 6, 7, 8] ∧
  (∀ (i n : Nat) (f : Bool) (a : Angle) (r d : Role),
    [Order.gaugeMove i n, .gaugeHome, .clampDown i n, .knifeCut i f, .clampUp (some i), .rotate i a, .receive i r a, .pass i r d,
      .align i n, .takeLift i n, .acceptPile i, .presentPile i, .turnPile i f, .discharge i, .clear i r,
      .clearPlatform i].map (fun o => (o.kind.code, o.params)) =
    [(1, be4 n), (2, []), (3, [byte n]), (4, [bit f]), (5, []), (6, be2 a.degrees), (7, byte i :: be2 a.degrees),
      (8, [byte i, byte d.code]), (9, [byte i, byte n]), (10, byte i :: be2 n), (11, [byte i]), (12, [byte i]),
      (13, [byte i, bit f]), (14, [byte i]), (15, [byte i]), (16, [byte i])])

/-- The row of the table that carries out a request of a kind (spec/11, section 11.2). -/
def requestRow (kind : Nat) : Instr :=
  ([Instr.requestKindUnknown, .programOpen, .stepWrite, .programClose, .programErase, .readProgram, .liftAdmit, .liftCancel,
    .liftResume, .readLift, .readLine, .pileDeclare, .readPiles, .chopRun, .loadTiming, .readTiming, .readOrders,
    .readFaultRecord, .clearFaultRecord, .setPressure, .refresh, .setSupervision, .readChallenge, .releaseSafe, .enterSetup,
    .leaveSetup, .holdLine, .resumeLine, .setRole, .setForward, .setPort, .readIdentity, .readStatus, .setNotice, .clearNotice,
    .lineReset][kind]?).getD .requestKindUnknown

/-! ### Laws (each is kept by every step) -/

/-- No order is PENDING. -/
def Coordinator.quiet (b : Coordinator) : Prop := ∀ t : Fin 32, b.tags[t].pendingOrder = none

/-- The law of SAFE (R148): the output is asserted exactly in SAFE, and in SAFE no tag is PENDING, nobody holds the grant and the watchdog is stopped. -/
def Coordinator.safeLaw (b : Coordinator) : Prop :=
  (b.sup.safeOutput = true ↔ b.sup.mode = .safe) ∧
  (b.sup.mode = .safe → b.quiet ∧ b.arbiter.grant = none ∧ b.sup.running = false)

/-- The law of the failure count (R158): it never exceeds the escalation count and equals it only in SAFE; the escalation count is 1, 2, 4 or 8 (R142). -/
def Coordinator.countLaw (b : Coordinator) : Prop :=
  b.sup.escalation ∈ [1, 2, 4, 8] ∧ b.sup.failures ≤ b.sup.escalation ∧
  (b.sup.failures = b.sup.escalation → b.sup.mode = .safe)

/-- The law of the use counts (R2): each is the number of live lift records naming the slot, and 0 where no READY program is held; at most 8 records, their ids unique (R20). -/
def Coordinator.useLaw (b : Coordinator) : Prop :=
  (b.lifts.map Lift.id).Nodup ∧ b.lifts.length ≤ Config.liftRecords ∧
  ∀ n : Fin 16,
    b.slots[n].useCount = b.lifts.countP (fun l => l.slot == n.val) ∧ (b.slots[n].body.code ≠ 2 → b.slots[n].useCount = 0)

/-- The law of a slot (R1): EMPTY has neither header nor steps, LOADING and READY a header of 1 to 40 steps (R3) and a step list of that length; READY has the checksum of its steps (R10) and every last cut in range (R9). -/
def SlotBody.law : SlotBody → Prop
  | .empty => True
  | .loading h steps => 1 ≤ h.stepCount ∧ h.stepCount ≤ 40 ∧ steps.length = h.stepCount
  | .ready h c steps =>
    1 ≤ h.stepCount ∧ h.stepCount ≤ 40 ∧ steps.length = h.stepCount ∧ c = (crc (steps.flatMap stepRecord)).toNat ∧
      ∀ st ∈ steps, st.lastCutInRange

/-- The law of the slots (R1). -/
def Coordinator.slotLaw (b : Coordinator) : Prop := ∀ n : Fin 16, b.slots[n].body.law

/-- What the infeed's records say of a PENDING order about a pile (R55 to R58, R65). -/
def Coordinator.infeedTag (b : Coordinator) : Order → Prop
  | .turnPile i _ => ∃ p ∈ b.piles, p.id = i ∧ p.state = .turning
  | .presentPile i => ∃ p ∈ b.piles, p.id = i ∧ ∃ a, p.move = some (.inFlight, a)
  | .acceptPile i => ∃ p ∈ b.piles, p.id = i ∧ ∃ a, p.move = some (a, .inFlight)
  | .clearPlatform i => ∃ p ∈ b.piles, p.id = i ∧ p.clear = some .inFlight
  | _ => True

/-- The law of the infeed (R48, R49): each pile place is held by at most one pile; lifts taken and remaining budget make up the declared budget, only an EMPTY pile has none left, a move is open in MOVING alone and a clear in EMPTY or SHORT alone; at most 3 records, their ids unique, and each agrees with the PENDING orders about it. -/
def Coordinator.infeedLaw (b : Coordinator) : Prop :=
  (b.piles.map Pile.id).Nodup ∧ b.piles.length ≤ Config.pileRecords ∧
  (∀ p ∈ b.piles, p.taken + p.remaining = p.declared ∧ (p.remaining = 0 → p.state = .empty) ∧
    (p.move ≠ none → p.state = .moving) ∧ (p.clear ≠ none → p.state = .empty ∨ p.state = .short)) ∧
  b.piles.countP Pile.holdsTurner ≤ 1 ∧ b.piles.countP Pile.holdsPlatform ≤ 1 ∧
  ∀ o, b.hasPending o → b.infeedTag o

/-- The places along the line, NONE behind the first. -/
def Position.rank : Position → Nat
  | .none => 0 | .lifter => 1 | .jogger => 2 | .cutter => 3 | .outfeed => 4

/-- The lift stands at the position or has it reserved (R24). -/
def Lift.holds (l : Lift) (p : Position) : Prop := l.position = p ∨ l.reservedEnd = some p

/-- What a lift's record says of a PENDING order about it (R26, R28, R35, R42, R61, R66, R74). -/
def Lift.fits (l : Lift) : Order → Prop
  | .takeLift _ _ => l.state = .working ∧ l.position = .lifter ∧ l.dest = none
  | .align _ _ => l.position = .jogger ∧ l.dest = none ∧ (l.state = .working ∨ ∃ c, l.state = .held c)
  | .discharge _ => l.position = .outfeed ∧ l.dest = none ∧ (l.state = .working ∨ ∃ c, l.state = .held c)
  | .pass _ _ _ => ∃ v, l.pair = some (.inFlight, v) ∧ (l.state = .passing ∨ ∃ c, l.state = .held c)
  | .receive _ _ _ => ∃ u, l.pair = some (u, .inFlight) ∧ (l.state = .passing ∨ ∃ c, l.state = .held c)
  | .clear _ r => (l.state = .clearing ∨ ∃ c, l.state = .held c) ∧
    ((l.dest = none ∧ l.position.clearer = some r) ∨
      ∃ d u v, l.dest = some d ∧ l.pair = some (u, v) ∧
        ((l.source.clearer = some r ∧ u = .inFlight) ∨ (d.clearer = some r ∧ v = .inFlight)))
  | _ => l.position = .cutter ∧ l.dest = none ∧ (l.state = .working ∨ ∃ c, l.state = .held c)

/-- The law of the line (R20 to R22, R24): the lifts at NONE are the WAITING ones; a reserved destination and a pair progress come together, in PASSING, HELD and CLEARING alone, with the lift at one end of its handover; no lift stands behind one that follows it in the Line Order, and no position is held by two; each PENDING order's lift is in the table and fits it; two orders about one lift are the two of a handover or two Clears; and the Cutter Sequencer has one order PENDING at most, none for its lift in recovery stage HOME or ROTATOR (R74, R94). -/
def Coordinator.lineLaw (b : Coordinator) : Prop :=
  (∀ l ∈ b.lifts, (l.state = .waiting ↔ l.position = .none) ∧ (l.dest = none ↔ l.pair = none) ∧
    ∀ d, l.dest = some d → d.before ≠ .none ∧ (l.position = d ∨ l.position = d.before) ∧
      (l.state = .passing ∨ l.state = .clearing ∨ ∃ c, l.state = .held c)) ∧
  b.lifts.Pairwise (fun x y => y.position.rank ≤ x.position.rank ∧ ∀ p, p ≠ .none → x.holds p → ¬ y.holds p) ∧
  (∀ o i, b.hasPending o → o.lift = some i → ∃ l ∈ b.lifts, l.id = i ∧ l.fits o) ∧
  (∀ (t u : Fin 32) (o q : Order), t ≠ u → b.tags[t].pendingOrder = some o → b.tags[u].pendingOrder = some q →
    ¬ (o.ofCutter = true ∧ q.ofCutter = true) ∧
    ∀ i, o.lift = some i → q.lift = some i →
      (o.kind = .pass ∧ q.kind = .receive) ∨ (o.kind = .receive ∧ q.kind = .pass) ∨ (o.kind = .clear ∧ q.kind = .clear)) ∧
  ∀ o, b.hasPending o → o.ofCutter = true → o.isRecovery = false → b.cutter.recovery = .clear ∨ b.cutter.recovery = .clamp

/-- The law of the knife (R81): a Knife Cut is PENDING only in RUN, with the clamp DOWN and no GAUGE order PENDING. -/
def Coordinator.knifeLaw (b : Coordinator) : Prop :=
  b.knifePending = true → b.sup.mode = .run ∧ b.cutter.clamp = .down ∧ b.busy .gauge = false

/-- A port's queues and burst count stay within their bounds (R168). -/
def Link.bounded (l : Link) : Prop :=
  l.own.length ≤ Config.ownQueue ∧ l.forward.length ≤ Config.fwdQueue ∧ l.burst ≤ Config.burstLimit

/-- The law of the queues: both ports' (R168) and the Agent's (R195). -/
def Coordinator.queueLaw (b : Coordinator) : Prop :=
  b.west.bounded ∧ b.east.bounded ∧ b.agent.length ≤ Config.agentQueue

/-- The law of the Role Table (R168, R176): every address held is 1–62, and no two roles hold the same. -/
def Coordinator.roleLaw (b : Coordinator) : Prop :=
  (∀ r a, b.roles.get r = some a → 1 ≤ a ∧ a ≤ 62) ∧
  ∀ r q a, b.roles.get r = some a → b.roles.get q = some a → r = q

/-- The law of the supply (R126): every PENDING order that uses pressure was sent to the station that holds the grant. -/
def Coordinator.pressureLaw (b : Coordinator) : Prop :=
  ∀ t o h, b.tags[(t : Fin 32)].pendingOrder = some o → o.hydraulic = some h → b.arbiter.grant = some (h, .busy)

/-- No station has more than one PENDING order (R103). -/
def Coordinator.stationLaw (b : Coordinator) : Prop :=
  ∀ (t u : Fin 32) (o q : Order), b.tags[t].pendingOrder = some o → b.tags[u].pendingOrder = some q → o.role = q.role → t = u

end Sys2Proof.Machine
end

