-- ==== Sys2Proof/Certificates/Slice0/Obligations.lean ====
section
/-! DEFINITION. The statements for the provers. -/

open Sys2Proof Sys2Proof.Machine

/-! ### The step and the reset -/

/-- Step takes the command at the front of the queue and runs exec on it with the queue's rest. -/
def Obligations.StepRunsFrontCommand : Prop :=
  ∀ (s : State) (c : Instr) (rest : List Instr), step { s with pending := c :: rest } = exec c { s with pending := rest }

/-- Every command answers a next state in every state and leaves the queue as it was. -/
def Obligations.EveryCommandAnswersNext : Prop :=
  ∀ (c : Instr) (s : State), ∃ b, completes c s b

/-- On an empty queue step counts one millisecond (the model's choice, log 7): line time, deadlines, quarantine timers, the period and the times of the ports count (R85, R111, R113, R156, R185 to R188; where the ports' elapsed times stop: log 40), and the expiries that fall due are queued (their order: log 31): every deadline, quarantine timer and period that runs out has its row, so has every port time in its state, and VERIFY its HELLO. A spacing row names an interval that runs out, every start event with such an interval has one, and the hold-off row comes first, where the hold-off of a due NOTICE runs out: so these rows find the times as they are, and none takes back a time that a row before it started again (R85, R204). -/
def Obligations.EmptyQueueCountsOneMillisecond : Prop :=
  ∀ s : State, s.pending = [] → ∃ t, step s = .next t ∧
    t.blk.lineTime = min (s.blk.lineTime + 1) 4294967295 ∧
    (∀ i : Fin 32, s.blk.tags[i] = .free → t.blk.tags[i] = .free) ∧
    (∀ (i : Fin 32) r d, s.blk.tags[i] = .pending r d → t.blk.tags[i] = .pending r (d - 1)) ∧
    (∀ (i : Fin 32) r c q, s.blk.tags[i] = .quarantined r c q → t.blk.tags[i] = .quarantined r c (q - 1)) ∧
    (s.blk.sup.running = true → t.blk.sup.elapsed = min (s.blk.sup.elapsed + 1) (20 * 2 ^ s.blk.sup.period.val)) ∧
    (s.blk.sup.running = false → t.blk.sup = s.blk.sup) ∧
    (∀ i : Fin 32, Instr.deadlinePass i ∈ t.pending ↔ ∃ r d, s.blk.tags[i] = .pending r d ∧ d ≤ 1) ∧
    (∀ i : Fin 32, Instr.quarantineTimeout i ∈ t.pending ↔ ∃ r c q, s.blk.tags[i] = .quarantined r c q ∧ q ≤ 1) ∧
    (Instr.watchdogExpiry ∈ t.pending ↔ s.blk.sup.running = true ∧ 20 * 2 ^ s.blk.sup.period.val ≤ s.blk.sup.elapsed + 1) ∧
    (∀ (p : Port) (l : Link), l = s.blk.link p →
      (l.state = .up → t.blk.link p = l) ∧
      (l.state = .down → t.blk.link p = { l with retryDelay := l.retryDelay - 1 }) ∧
      (l.state ∈ [PortState.align, .lock, .verify] → t.blk.link p = { l with
        bringUp := min (l.bringUp + 1) l.active.bringUpLimit, window := min (l.window + 1) 255 }) ∧
      (Instr.retryDelayExpiry p ∈ t.pending ↔ l.state = .down ∧ l.retryDelay ≤ 1) ∧
      (Instr.bringUpLimitExpiry p ∈ t.pending ↔
        l.state ∈ [PortState.align, .lock, .verify] ∧ l.active.bringUpLimit ≤ l.bringUp + 1) ∧
      (Instr.alignWindowExpiry p ∈ t.pending ↔ l.state = .align ∧ l.active.alignWindow ≤ min (l.window + 1) 255) ∧
      (Instr.lockWaitExpiry p ∈ t.pending ↔ l.state = .lock ∧ l.active.lockWait ≤ min (l.window + 1) 255) ∧
      (Instr.verifyWindowExpiry p ∈ t.pending ↔ l.state = .verify ∧ l.active.alignWindow ≤ min (l.window + 1) 255) ∧
      (Instr.helloSend p ∈ t.pending ↔ l.state = .verify)) ∧
    (∀ e, Instr.spacingExpiry e ∈ t.pending →
      t.blk.cutter.spacing.startOf e = some s.blk.timing[spacingNumber e] ∧
      t.blk.cutter.spacing.expire e s.blk.timing[spacingNumber e] = t.blk.cutter.spacing) ∧
    (∀ e n, s.blk.cutter.spacing.startOf e = some n → n + 1 = s.blk.timing[spacingNumber e] → n + 1 ≤ 5000 →
      t.blk.cutter.spacing.startOf e = some (n + 1) ∧
      (Instr.spacingExpiry e ∈ t.pending ∨ (e = .s5 ∧ Instr.spacingExpiry .s0 ∈ t.pending) ∨
        (e = .s7l ∧ Instr.spacingExpiry .s7s ∈ t.pending))) ∧
    (Instr.spacingExpiry .s7s ∈ t.pending → Instr.spacingExpiry .s7l ∉ t.pending) ∧
    t.blk.notices.since = min (s.blk.notices.since + 1) 1001 ∧
    (s.blk.notices.due = true → t.blk.notices.since = s.blk.notices.holdOff → t.pending.head? = some .holdOffExpiry) ∧
    (Instr.holdOffExpiry ∈ t.pending → s.blk.notices.due = true ∧ t.blk.notices.since = s.blk.notices.holdOff) ∧
    t.blk.slots = s.blk.slots ∧ t.blk.lifts = s.blk.lifts ∧ t.blk.piles = s.blk.piles ∧ t.blk.arbiter = s.blk.arbiter ∧
    t.blk.roles = s.blk.roles ∧ t.blk.routes = s.blk.routes ∧ t.blk.agent = s.blk.agent ∧ t.blk.inputs = s.blk.inputs

/-- Power-on and RSTN leave every slot EMPTY, no live lift, every position FREE and the ready marks clear, no live pile, the turner and the platform not held, and no call outstanding (R18, R46, R68). -/
def Obligations.ResetEmptiesStoreLiftsAndPiles : Prop :=
  ∀ (s : State), ∀ c ∈ [Instr.powerOn, Instr.rstnPulse], ∃ t, exec c s = .next t ∧
    (∀ n : Fin 16, t.blk.slots[n] = ⟨.empty, 0⟩) ∧
    t.blk.lifts = [] ∧ (∀ p, t.blk.posEntry p = .free) ∧ t.blk.tracker = ⟨false, false, false⟩ ∧
    t.blk.piles = [] ∧ t.blk.turnerHeld = false ∧ t.blk.platformHeld = false ∧
    t.blk.infeed.turnerMark = false ∧ t.blk.infeed.turnerCall = false ∧ t.blk.infeed.lifterCall = false

/-- Power-on and RSTN leave the Order Table, the Timing Table, the Cutter Sequencer, the Arbiter, the Supervisor, the Router, the ports, the Agent and the Notice Unit as R124, R99, R140, R166, R183, R194, R195 and R207 list; the input lines are as they stand. -/
def Obligations.ResetStopsTheLineAndTheLink : Prop :=
  (∀ (s : State), ∀ c ∈ [Instr.powerOn, Instr.rstnPulse], ∃ t, exec c s = .next t ∧
    (∀ i : Fin 32, t.blk.tags[i] = .free) ∧ t.blk.orders = ⟨31, [], none, 0, 0⟩ ∧ t.blk.lineTime = 0 ∧
    t.blk.timing.toList = [40, 20, 30, 0, 60, 50, 30, 350, 600, 8000, 3000, 4000, 6000, 20000, 30000, 15000, 60000, 30000,
      15000, 60000, 2000] ∧
    t.blk.cutter.clamp = .unknown ∧ t.blk.cutter.knife = .unknown ∧ t.blk.cutter.gauge = .unknown ∧
    t.blk.cutter.rotator = .unknown ∧ t.blk.cutter.recovery = .clamp ∧ t.blk.cutter.stage = .none ∧
    t.blk.cutter.cutNumber = 0 ∧ t.blk.cutter.cutTarget = none ∧
    t.blk.cutter.spacing = ⟨none, none, none, none, none, none, none⟩ ∧ t.blk.cutter.lastKnife = none ∧
    t.blk.cutter.holdOver = 0 ∧
    t.blk.arbiter = ⟨none, ⟨false, false, false⟩, [.press, .turner, .lifter], true, 8, false⟩ ∧
    t.blk.sup.mode = .safe ∧ t.blk.sup.cause = .powerOn ∧ t.blk.sup.safeOutput = true ∧ t.blk.sup.deferred = none ∧
    t.blk.sup.running = false ∧ t.blk.sup.failures = 0 ∧ t.blk.sup.periodMs = 320 ∧ t.blk.sup.style = .timeout ∧
    t.blk.sup.check = .plain ∧ t.blk.sup.escalation = 2 ∧ t.blk.sup.refreshCode = 0 ∧ t.blk.sup.challenge = none ∧
    t.blk.sup.lastChallenge = none ∧ t.blk.inputs = s.blk.inputs) ∧
  (∀ (s : State), ∀ c ∈ [Instr.powerOn, Instr.rstnPulse], ∃ t, exec c s = .next t ∧
    t.blk.roles = ⟨1, none, none, none, none, none, none, none⟩ ∧ (∀ a : Fin 64, t.blk.routes[a] = .none) ∧
    (∀ p, (t.blk.link p).state = .down ∧ (t.blk.link p).retryDelay = 100 ∧ (t.blk.link p).rate = .r12 ∧
      (t.blk.link p).active = ⟨10, 500, 5, false⟩ ∧ (t.blk.link p).stagedRate = .r12 ∧
      (t.blk.link p).staged = ⟨10, 500, 5, false⟩ ∧ (t.blk.link p).hellos = 0 ∧ (t.blk.link p).badRun = 0 ∧
      (t.blk.link p).retrain = false ∧ (t.blk.link p).helloAnswer = false ∧ (t.blk.link p).lastLoss = .none ∧
      (t.blk.link p).counters = ⟨0, 0, 0, 0, 0⟩ ∧ (t.blk.link p).own = [] ∧ (t.blk.link p).forward = [] ∧
      (t.blk.link p).halt = false ∧ (t.blk.link p).burst = 0 ∧ (t.blk.link p).router = ⟨0, 0, 0, 0, 0, 0⟩) ∧
    t.blk.agent = [] ∧ t.blk.infeed.turnerIdle = none ∧ t.blk.infeed.lifterIdle = none ∧
    (∀ c : Cause, t.blk.shows c ↔ c = .modeChange) ∧ (∀ c : Cause, c.isIn t.blk.notices.mask = true) ∧
    t.blk.notices.holdOff = 50 ∧ t.blk.notices.due = true ∧ t.blk.notices.holdOff ≤ t.blk.notices.since ∧
    t.blk.notices.attention = none)

/-! ### The input lines -/

/-- ESTOP asserted takes the line to SAFE from every other mode, holds the lifts whose orders it abandons and marks the lift of an abandoned Knife Cut uncertain (R151, R146, R114, R32); in SAFE it leaves the Supervisor alone (R149). -/
def Obligations.EstopEntersSafe : Prop :=
  ∀ s : State, s.blk.inputs.estop = false → ∃ t, exec .estopAsserted s = .next t ∧
    t.blk.inputs = { s.blk.inputs with estop := true } ∧
    (s.blk.sup.mode ≠ .safe → s.blk.enteredSafe t.blk .estop ∧ t.blk.sup.failures = s.blk.sup.failures ∧
      (∀ o l, s.blk.hasPending o → o.lift = some l.id → s.blk.lift? l.id = some l →
        l.state ∈ [LiftState.working, .passing, .clearing] →
        (t.blk.lift? l.id).map Lift.state = some (.held .stopped)) ∧
      (∀ l r x, s.blk.hasPending (.knifeCut l r) → s.blk.lift? l = some x →
        (t.blk.lift? l).map Lift.uncertain = some true)) ∧
    (s.blk.sup.mode = .safe → t.blk.sup = s.blk.sup ∧ s.blk.keepsTags t.blk ∧ s.blk.keepsUnits t.blk)

/-- CURTAIN asserted takes the line to SAFE where the cutter is not at rest, and changes no mode otherwise (R152). DOOR asserted is a cause of HOLD in RUN, deferred while a Knife Cut is PENDING, and nothing to the other modes (R153, R144, R145). -/
def Obligations.CurtainAndDoorJudgeTheLine : Prop :=
  (∀ s : State, s.blk.inputs.curtain = false → ∃ t, exec .curtainAsserted s = .next t ∧
    t.blk.inputs = { s.blk.inputs with curtain := true } ∧
    (s.blk.sup.mode ≠ .safe →
      (s.blk.cutter.clamp ≠ .up ∨ ∃ o, s.blk.hasPending o ∧ (o.role = .press ∨ o.role = .rotator)) →
      s.blk.enteredSafe t.blk .curtain) ∧
    ((s.blk.sup.mode = .safe ∨
        (s.blk.cutter.clamp = .up ∧ ∀ o, s.blk.hasPending o → o.role ≠ .press ∧ o.role ≠ .rotator)) →
      t.blk.sup = s.blk.sup ∧ s.blk.keepsTags t.blk ∧ s.blk.keepsUnits t.blk ∧ s.blk.keepsFaults t.blk ∧
        s.blk.keepsSettings t.blk)) ∧
  (∀ s : State, s.blk.inputs.door = false → ∃ t, exec .doorAsserted s = .next t ∧
    t.blk.inputs = { s.blk.inputs with door := true } ∧ s.blk.keepsTags t.blk ∧ s.blk.keepsUnits t.blk ∧
    s.blk.keepsFaults t.blk ∧ s.blk.keepsSettings t.blk ∧
    (s.blk.sup.mode = .run → s.blk.knifePending = false →
      t.blk.sup = { s.blk.sup with mode := .hold, cause := .door } ∧ t.blk.shows .modeChange) ∧
    (s.blk.sup.mode = .run → s.blk.knifePending = true → s.blk.sup.deferred = none →
      t.blk.sup = { s.blk.sup with deferred := some .door }) ∧
    (s.blk.sup.mode = .run → s.blk.knifePending = true → s.blk.sup.deferred ≠ none → t.blk.sup = s.blk.sup) ∧
    (s.blk.sup.mode ≠ .run → t.blk.sup = s.blk.sup))

/-- What follows in the event of a command besides the orders it issues: the model's finish (log 13), which every other statement leaves open. In RUN a lift WORKING at CUTTER is HELD at a PAUSE step (R90), its next cut is taken up, or it is HELD where the target is out of range (R76, R77), and a strip run with none remaining completes its step (R84). Outside RUN the outstanding calls are answered Idle with STOPPED, the issue request list is empty and no request flag is set (R54, R60, R102, R127). The grant of an order that has ended is kept by hold-over below the cap, and otherwise released, with the yield mark at the cap (R131, R132, R134, R135); one not yet used is given up outside RUN (R137), and a LIFTER's whose checks fail answers its call (R60). A grant decision serves the first flag of the priority order, the PRESS passed over under the yield mark (R128, R135). The clauses that two lifts of one id, or at one position, would break ask for the law of the use counts or of the line. -/
def Obligations.EventEndActsOnItsConditions : Prop :=
  (∀ (b : Coordinator) (l : Lift), (b.lifts.map Lift.id).Nodup → b.sup.mode = .run →
    (∀ o, b.hasPending o → o.ofCutter = false) → b.workingAtCutter = some l →
    (b.currentStep l = some .pause → { l with state := .held .pause } ∈ b.finish.lifts ∧ b.finish.shows .liftHeld) ∧
    (b.cutter.recovery = .clear → b.cutter.stage = .none →
      ∀ (st : Step) (g : Int) (left : Nat), b.currentStep l = some st →
        ((∃ p k r, st = .cut p k r ∧ g = p + l.cutOffset ∧ left = l.runRemaining) ∨
          (∃ p q m k r, st = .strip p q m k r ∧ 1 ≤ l.runRemaining ∧ left = l.runRemaining - 1 ∧
            g = (p : Int) - b.cutter.cutNumber * q + l.cutOffset)) →
        (2500 ≤ g → g ≤ 165000 →
          { l with runRemaining := left } ∈ b.finish.lifts ∧ b.finish.cutter.cutTarget = some g.toNat ∧
          b.finish.cutter.stage = if b.cutter.gauge = .known g.toNat then .clamp else .set) ∧
        (b.lineLaw → (g < 2500 ∨ 165000 < g) → { l with state := .held .range } ∈ b.finish.lifts ∧ b.finish.cutter.stage = .none ∧
          b.finish.shows .liftHeld)) ∧
    (b.cutter.recovery = .clear → b.cutter.stage = .none → l.runRemaining = 0 →
      (∃ p q m k r, b.currentStep l = some (.strip p q m k r)) →
      ∃ x ∈ b.finish.lifts, x.id = l.id ∧ l.stepIndex < x.stepIndex)) ∧
  (∀ b : Coordinator, b.sup.mode ≠ .run →
    b.finish.infeed.turnerCall = false ∧ b.finish.infeed.lifterCall = false ∧ b.finish.orders.requests = [] ∧
    b.finish.arbiter.flags = ⟨false, false, false⟩ ∧
    (∀ (r : Role) (a : Nat) (p : Port), (r = .turner ∧ b.infeed.turnerCall = true) ∨ (r = .lifter ∧ b.infeed.lifterCall = true) →
      b.infeed.waiting r = none → b.roles.get r = some a → b.portOf a = some p → (b.link p).isUp = true →
      b.finish.idles r p a .stopped) ∧
    (∀ h, b.arbiter.grant = some (h, .busy) → b.pressurePending h = true → b.finish.arbiter.grant = some (h, .busy)) ∧
    ((∀ h, b.arbiter.grant = some (h, .busy) → b.pressurePending h = false) →
      (∀ h, b.arbiter.grant = some (h, .kept) → h = .press) →
      b.finish.arbiter.grant = none ∧ (∀ x, b.arbiter.grant = some (.press, x) → b.finish.cutter.holdOver = 0))) ∧
  (∀ (b : Coordinator) (h : Hydraulic), b.useLaw → b.sup.mode = .run → b.arbiter.grant = some (h, .busy) →
    b.pressurePending h = false →
    let goesOn := h = .press ∧ b.arbiter.holdOver = true ∧ b.inputs.curtain = false ∧ b.cutter.recovery = .clear ∧
      b.cutter.stage ∈ [CutStage.clamp, .cut, .release] ∧ ∃ l, b.workingAtCutter = some l ∧ b.currentStep l ≠ some .pause
    (goesOn → b.cutter.holdOver < b.arbiter.cap →
      (b.finish.arbiter.grant = some (.press, .kept) ∧ b.finish.cutter.holdOver = b.cutter.holdOver) ∨
      (b.finish.arbiter.grant = some (.press, .busy) ∧ b.finish.cutter.holdOver = b.cutter.holdOver + 1 ∧
        b.finish.busy .press = true)) ∧
    (goesOn → b.arbiter.cap ≤ b.cutter.holdOver → b.inputs.pressOk = false →
      b.finish.arbiter.grant = none ∧ b.finish.arbiter.yield = true ∧ b.finish.cutter.holdOver = 0) ∧
    (h ≠ .press ∨ b.arbiter.holdOver = false ∨ b.inputs.curtain = true ∨ b.workingAtCutter = none ∨ b.cutter.recovery ≠ .clear →
      b.inputs.pressOk = false →
      b.finish.arbiter.grant = none ∧ b.finish.arbiter.yield = b.arbiter.yield ∧ (h = .press → b.finish.cutter.holdOver = 0))) ∧
  (∀ (b : Coordinator) (r : IdleReason), b.useLaw → b.sup.mode = .run → b.arbiter.grant = some (.lifter, .granted) →
    b.infeed.lifterCall = true → b.callCheck = .error r →
    b.finish.infeed.lifterCall = false ∧ b.finish.arbiter.grant ≠ some (.lifter, .busy) ∧
    (∀ a p, b.infeed.waiting .lifter = none → b.roles.get .lifter = some a → b.portOf a = some p → (b.link p).isUp = true →
      b.finish.idles .lifter p a r)) ∧
  (∀ b : Coordinator,
    let waived := fun h => h = .press ∧ b.arbiter.yield = true ∧ (b.arbiter.flags.turner = true ∨ b.arbiter.flags.lifter = true)
    (b.arbiter.grant ≠ none ∨ b.inputs.pressOk = false ∨ b.sup.mode ≠ .run ∨ b.arbiter.flags = ⟨false, false, false⟩ →
      b.grantDecision = b) ∧
    (∀ first h rest, b.arbiter.grant = none → b.inputs.pressOk = true → b.sup.mode = .run →
      b.arbiter.priority = first ++ h :: rest → b.arbiter.flags.get h = true → ¬ waived h →
      (∀ g ∈ first, b.arbiter.flags.get g = false ∨ waived g) →
      b.grantDecision = { b with arbiter := { b.arbiter with
        grant := some (h, .granted), flags := b.arbiter.flags.clear h, yield := false } }))

/-- A guard line becoming CLEAR, and PRESS_OK rising or falling, change no mode, no order in flight, no unit state and no setting (R151 to R153, R136). PRESS_OK falling lets no new grant be given and takes none from a holder whose order is PENDING; rising in RUN, it leaves no station waiting while nobody holds the grant (R128, R136). -/
def Obligations.InputLinesClearedAndPressOk : Prop :=
  (∀ (s : State) (c : Instr) (i : Inputs),
    (c, i) ∈ [(Instr.estopCleared, { s.blk.inputs with estop := false }),
      (Instr.curtainCleared, { s.blk.inputs with curtain := false }),
      (Instr.doorCleared, { s.blk.inputs with door := false }),
      (Instr.pressOkRise, { s.blk.inputs with pressOk := true }),
      (Instr.pressOkFall, { s.blk.inputs with pressOk := false })] →
    ∃ t, exec c s = .next t ∧ t.blk.inputs = i ∧ t.blk.sup = s.blk.sup ∧ s.blk.keepsTags t.blk ∧ s.blk.keepsUnits t.blk ∧
      s.blk.keepsFaults t.blk ∧ s.blk.keepsSettings t.blk ∧ t.blk.agent = s.blk.agent) ∧
  (∀ s : State,
    (s.blk.inputs.pressOk = true → ∃ t, exec .pressOkFall s = .next t ∧
      (s.blk.arbiter.grant = none → t.blk.arbiter.grant = none) ∧
      (∀ h, s.blk.arbiter.grant = some (h, .busy) → s.blk.pressurePending h = true → t.blk.arbiter.grant = some (h, .busy))) ∧
    (s.blk.inputs.pressOk = false → s.blk.sup.mode = .run →
      List.Perm s.blk.arbiter.priority [.press, .turner, .lifter] → ∃ t, exec .pressOkRise s = .next t ∧
      (t.blk.arbiter.grant = none → t.blk.arbiter.flags = ⟨false, false, false⟩)))

/-! ### Frames received -/

/-- A REQUEST to the Coordinator from the CELL address on WEST joins the Agent's queue, or is answered FULL, without data (log 43), if it holds 4; from EAST or another source it is a filter drop (R171), and so is one shorter than two bytes (R210). -/
def Obligations.RequestJoinsTheAgentQueue : Prop :=
  ∀ (s : State) (p : Port) (d src kind number : Byte) (args : List Byte),
    s.blk.delivers p d src → args.length ≤ 46 →
    ((p = .east ∨ addressOf src ≠ s.blk.roles.cell) →
      completes (.requestReceived p d src (kind :: number :: args)) s
        ((s.blk.heard p).countRouter p RouterCounters.addFilter)) ∧
    (p = .west → addressOf src = s.blk.roles.cell → s.blk.agent.length < 4 →
      completes (.requestReceived p d src (kind :: number :: args)) s
        { s.blk.consumed p with agent := s.blk.agent ++ [⟨d, src, kindRequest, kind :: number :: args⟩] }) ∧
    (p = .west → addressOf src = s.blk.roles.cell → 4 ≤ s.blk.agent.length → s.blk.west.own.length < 24 →
      completes (.requestReceived p d src (kind :: number :: args)) s
        ((s.blk.consumed p).place .west (answerFrame (addressOf src) kind number .full []))) ∧
    (p = .west → addressOf src = s.blk.roles.cell → 4 ≤ s.blk.agent.length → 24 ≤ s.blk.west.own.length →
      completes (.requestReceived p d src (kind :: number :: args)) s (s.blk.consumed p)) ∧
    completes (.requestReceived p d src [kind]) s ((s.blk.heard p).countRouter p RouterCounters.addFilter) ∧
    completes (.requestReceived p d src []) s ((s.blk.heard p).countRouter p RouterCounters.addFilter)

/-- A DONE report that matches a PENDING tag frees it (R107), sets the cutter unit states and starts the spacing intervals (R71, R85), and advances the recovery stage where it ends its recovery order (R93; overtaken: log 28). Its lift takes the effect: a Pass and a Receive complete the handover once both are DONE, and a Receive moves the lift (R28, R29, R75); a Discharge retires it (R36); the last Clear removes it (R42); the orders of a cut move its stage, a Knife Cut counts a cut made, and a cut or a step completed goes on to the next (R78, R82, R84); a Rotate turns the lift (R89). A recovery order sets its unit, and a Gauge Home that ends the recovery settles the cut in hand (R71, R95), where the law of the slots holds. What follows in the same event is the model's finish (log 13). -/
def Obligations.DoneSetsUnitStates : Prop :=
  (∀ (s : State) (p : Port) (d src tag kind : Byte) (i : Fin 32) (r : OrderRecord) (n : Nat),
    s.blk.delivers p d src → s.blk.tags[i] = .pending r n → s.blk.reports src tag kind i r → doneLength kind = 0 →
    ∃ t, exec (.reportDone p d src tag kind []) s = .next t ∧
      (s.blk.sup.mode ≠ .run → t.blk.tags[i] = .free) ∧
      (∀ j, j ≠ i → s.blk.tags[j] ≠ .free → t.blk.tags[j] = s.blk.tags[j]) ∧
      (∀ l g, r.order = .gaugeMove l g → t.blk.cutter.gauge = .known g ∧ t.blk.cutter.spacing.gauge = some 0) ∧
      (r.order = .gaugeHome → t.blk.cutter.gauge = .known 165000 ∧ t.blk.cutter.spacing.gauge = some 0) ∧
      (∀ l k, r.order = .clampDown l k → t.blk.cutter.clamp = .down ∧ t.blk.cutter.spacing.clampDown = some 0) ∧
      (∀ l, r.order = .knifeCut l true → t.blk.cutter.knife = .top ∧ t.blk.cutter.clamp = .up ∧
        t.blk.cutter.spacing.knifeCut = some 0 ∧ t.blk.cutter.spacing.knifeRelease = some 0) ∧
      (∀ l, r.order = .knifeCut l false → t.blk.cutter.knife = .top ∧ t.blk.cutter.clamp = s.blk.cutter.clamp ∧
        t.blk.cutter.spacing.knifeCut = some 0 ∧ t.blk.cutter.spacing.knifeRelease = s.blk.cutter.spacing.knifeRelease) ∧
      (∀ l, r.order = .clampUp l → t.blk.cutter.clamp = .up ∧ t.blk.cutter.knife = .top ∧
        t.blk.cutter.spacing.clampUp = some 0) ∧
      (∀ l a, r.order = .rotate l a → t.blk.cutter.rotator = .ready ∧ t.blk.cutter.spacing.rotate = some 0) ∧
      (r.order.role = .rotator → t.blk.cutter.rotator = .ready) ∧
      (r.order = .clampUp none → s.blk.cutter.overtaken = false → s.blk.cutter.recovery = .clamp →
        t.blk.cutter.recovery = .home) ∧
      (r.order = .gaugeHome → s.blk.cutter.overtaken = false → s.blk.cutter.recovery = .home →
        t.blk.cutter.recovery = if s.blk.cutter.rotator = .unknown then .rotator else .clear) ∧
      (r.order.isRecovery = true → s.blk.cutter.overtaken = true → t.blk.cutter.recovery = s.blk.cutter.recovery) ∧
      (r.order.isRecovery = false → t.blk.cutter.recovery = s.blk.cutter.recovery) ∧
      (r.order.toCutterUnit = false → s.blk.keepsUnits t.blk) ∧ s.blk.keepsFaults t.blk ∧ s.blk.keepsSettings t.blk) ∧
  (∀ (s : State) (p : Port) (d src tag kind : Byte) (i : Fin 32) (r : OrderRecord) (n : Nat) (x : Lift),
    s.blk.delivers p d src → s.blk.tags[i] = .pending r n → s.blk.reports src tag kind i r →
    (s.blk.lifts.map Lift.id).Nodup → x ∈ s.blk.lifts →
    let done := fun effect => completes (.reportDone p d src tag kind []) s (s.blk.afterDone p i effect)
    (∀ st dst u v, r.order = .pass x.id st dst → x.pair = some (u, v) →
      (x.state = .passing → v = .done → done fun b => (b.heardFrom st).handedOver x) ∧
      (x.state ≠ .passing ∨ v ≠ .done → done fun b => (b.heardFrom st).withLift { x with pair := some (.done, v) })) ∧
    (∀ st e q u v, r.order = .receive x.id st e → x.dest = some q → x.pair = some (u, v) →
      let y := { x with position := q, orientation := if q = .cutter then some (s.blk.entryOf x) else x.orientation }
      (x.state = .passing → u = .done → done fun b => (b.heardFrom st).handedOver y) ∧
      (x.state ≠ .passing ∨ u ≠ .done → done fun b => (b.heardFrom st).withLift { y with pair := some (u, .done) })) ∧
    (r.order = .discharge x.id → done fun b => b.withoutLift x) ∧
    (∀ st, r.order = .clear x.id st →
      (x.state = .clearing → (x.pair = none ∨ (x.setClear st .done).pair = some (.done, .done)) →
        (s.blk.cutterLift = some x → done fun b => { (b.heardFrom st).withoutLift x with
          cutter := { (b.heardFrom st).cutter with stage := .none, cutNumber := 0 } }) ∧
        (s.blk.cutterLift ≠ some x → done fun b => (b.heardFrom st).withoutLift x)) ∧
      (x.state ≠ .clearing ∨ (x.pair ≠ none ∧ (x.setClear st .done).pair ≠ some (.done, .done)) →
        done fun b => (b.heardFrom st).withLift (x.setClear st .done))) ∧
    (∀ g, r.order = .gaugeMove x.id g → done fun b => { b with cutter := { b.cutter with
      gauge := .known g, spacing := { b.cutter.spacing with gauge := some 0 }
      stage := if b.cutter.stage = .set then .clamp else b.cutter.stage } }) ∧
    (∀ k, r.order = .clampDown x.id k → done fun b => { b with cutter := { b.cutter with
      clamp := .down, spacing := { b.cutter.spacing with clampDown := some 0 }
      stage := if b.cutter.stage = .clamp then .cut else b.cutter.stage } }) ∧
    (r.order = .knifeCut x.id false → done fun b =>
      { b.withLift { x with cutsMade := min (x.cutsMade + 1) 65535 } with cutter := { b.cutter with
        knife := .top, spacing := { b.cutter.spacing with knifeCut := some 0 }, stage := .release } }) ∧
    (r.order = .knifeCut x.id true → done fun b =>
      ({ b with cutter := { b.cutter with
        knife := .top, clamp := .up
        spacing := { b.cutter.spacing with knifeCut := some 0, knifeRelease := some 0 } } }).cutDone
        { x with cutsMade := min (x.cutsMade + 1) 65535 }) ∧
    (r.order = .clampUp (some x.id) → done fun b =>
      ({ b with cutter := { b.cutter with
        clamp := .up, knife := .top, spacing := { b.cutter.spacing with clampUp := some 0 } } }).cutDone x) ∧
    (∀ a, r.order = .rotate x.id a → done fun b =>
      ({ b with cutter := { b.cutter with rotator := .ready, spacing := { b.cutter.spacing with rotate := some 0 } } }).stepDone
        { x with orientation := some ((x.orientation.getD .a0).add a) })) ∧
  (∀ (s : State) (p : Port) (d src tag kind : Byte) (i : Fin 32) (r : OrderRecord) (n : Nat),
    s.blk.delivers p d src → s.blk.tags[i] = .pending r n → s.blk.reports src tag kind i r → (s.blk.lifts.map Lift.id).Nodup →
    let done := fun effect => completes (.reportDone p d src tag kind []) s (s.blk.afterDone p i effect)
    let ends := fun stage => s.blk.cutter.overtaken = false ∧ s.blk.cutter.recovery = stage
    let raised := fun (b : Coordinator) (stage : Recovery) => { b with cutter := { b.cutter with
      clamp := .up, knife := .top, spacing := { b.cutter.spacing with clampUp := some 0 }, recovery := stage } }
    let homed := fun (b : Coordinator) (stage : Recovery) => { b with cutter := { b.cutter with
      gauge := .known 165000, spacing := { b.cutter.spacing with gauge := some 0 }, recovery := stage } }
    (r.order = .clampUp none → (ends .clamp → done fun b => raised b .home) ∧
      (¬ ends .clamp → done fun b => raised b b.cutter.recovery)) ∧
    (r.order = .gaugeHome → (¬ ends .home → done fun b => homed b b.cutter.recovery) ∧
      (ends .home → s.blk.cutter.rotator = .unknown → done fun b => homed b .rotator) ∧
      (ends .home → s.blk.cutter.rotator = .ready → s.blk.slotLaw → done fun b => (homed b .home).recovered)))

/-- A Take Lift DONE makes its lift READY and takes one lift from the FEEDING pile's budget, and the last one empties the pile (R62); an Align DONE within range stores what it measured and makes the lift READY within the skew limit, HELD beyond it, and one out of range holds the lift (R67). A Turn Pile DONE makes the pile TURNED (R56), the two DONEs of a move make it FEEDING (R58), a Clear Platform DONE removes it (R65). What follows in the same event is the model's finish (log 13). -/
def Obligations.InfeedReportsAreCounted : Prop :=
  (∀ (s : State) (p : Port) (d src tag kind : Byte) (i : Fin 32) (r : OrderRecord) (n : Nat),
    s.blk.delivers p d src → s.blk.tags[i] = .pending r n → s.blk.reports src tag kind i r →
    (s.blk.lifts.map Lift.id).Nodup → (s.blk.piles.map Pile.id).Nodup →
    (∀ l h q (h1 h0 : Byte), r.order = .takeLift l h → q ∈ s.blk.piles → s.blk.pileIn .feeding = some q → 1 ≤ q.remaining →
      ∃ t, exec (.reportDone p d src tag kind [h1, h0]) s = .next t ∧
        (∃ q' ∈ t.blk.piles, q'.id = q.id ∧ q'.remaining = q.remaining - 1 ∧ q'.taken = q.taken + 1 ∧
          q'.heightLeft = some (nat2 h1 h0) ∧ (q.remaining = 1 → q'.state = .empty) ∧
          (q.remaining ≠ 1 → q'.state = .feeding)) ∧
        (q.remaining = 1 → t.blk.shows .pileEmpty)) ∧
    (∀ l k x (b : Fin 8 → Byte), r.order = .align l k → x ∈ s.blk.lifts → x.id = l →
      ∃ t, exec (.reportDone p d src tag kind (List.ofFn b)) s = .next t ∧
        ∃ x' ∈ t.blk.lifts, x'.id = l ∧
          ((50 ≤ nat2 (b 0) (b 1) ∧ nat2 (b 0) (b 1) ≤ 1650 ∧ -500 ≤ int2 (b 2) (b 3) ∧ int2 (b 2) (b 3) ≤ 500 ∧
              -500 ≤ int2 (b 4) (b 5) ∧ int2 (b 4) (b 5) ≤ 500 ∧ nat2 (b 6) (b 7) ≤ 500) →
            x'.measured = some ⟨nat2 (b 0) (b 1), int2 (b 2) (b 3), int2 (b 4) (b 5), nat2 (b 6) (b 7)⟩ ∧
            (x.state = .working → s.blk.skewLimitOf x < nat2 (b 6) (b 7) → x'.state = .held .skew ∧ t.blk.shows .liftHeld)) ∧
          (¬ (50 ≤ nat2 (b 0) (b 1) ∧ nat2 (b 0) (b 1) ≤ 1650 ∧ -500 ≤ int2 (b 2) (b 3) ∧ int2 (b 2) (b 3) ≤ 500 ∧
              -500 ≤ int2 (b 4) (b 5) ∧ int2 (b 4) (b 5) ≤ 500 ∧ nat2 (b 6) (b 7) ≤ 500) →
            x'.measured = x.measured ∧ (x.state = .working → x'.state = .held .range ∧ t.blk.shows .liftHeld)))) ∧
  (∀ (s : State) (p : Port) (d src tag kind : Byte) (i : Fin 32) (r : OrderRecord) (n : Nat) (x : Lift),
    s.blk.delivers p d src → s.blk.tags[i] = .pending r n → s.blk.reports src tag kind i r →
    (s.blk.lifts.map Lift.id).Nodup → (s.blk.piles.map Pile.id).Nodup → x ∈ s.blk.lifts → x.state = .working →
    (∀ h q (h1 h0 : Byte), r.order = .takeLift x.id h → s.blk.pileIn .feeding = some q → 1 ≤ q.remaining →
      (q.remaining = 1 → completes (.reportDone p d src tag kind [h1, h0]) s (s.blk.afterDone p i fun b =>
        ((b.withLift { x with state := .ready }).withPile { q with
          remaining := 0, taken := q.taken + 1, heightLeft := some (nat2 h1 h0), state := .empty
          clear := some .notIssued }).setCause .pileEmpty)) ∧
      (q.remaining ≠ 1 → completes (.reportDone p d src tag kind [h1, h0]) s (s.blk.afterDone p i fun b =>
        (b.withLift { x with state := .ready }).withPile { q with
          remaining := q.remaining - 1, taken := q.taken + 1, heightLeft := some (nat2 h1 h0) }))) ∧
    (∀ k (m : Measured) (b : Fin 8 → Byte), r.order = .align x.id k →
      m = ⟨nat2 (b 0) (b 1), int2 (b 2) (b 3), int2 (b 4) (b 5), nat2 (b 6) (b 7)⟩ →
      let fits := 50 ≤ m.height ∧ m.height ≤ 1650 ∧ -500 ≤ m.dx ∧ m.dx ≤ 500 ∧ -500 ≤ m.dy ∧ m.dy ≤ 500 ∧ m.skew ≤ 500
      let done := fun effect => completes (.reportDone p d src tag kind (List.ofFn b)) s (s.blk.afterDone p i effect)
      (fits → m.skew ≤ s.blk.skewLimitOf x → done fun b => b.withLift { x with measured := some m, state := .ready }) ∧
      (fits → s.blk.skewLimitOf x < m.skew → done fun b =>
        (b.withLift { x with measured := some m, state := .held .skew }).setCause .liftHeld) ∧
      (¬ fits → done fun b => (b.withLift { x with state := .held .range }).setCause .liftHeld))) ∧
  (∀ (s : State) (p : Port) (d src tag kind : Byte) (i : Fin 32) (r : OrderRecord) (n : Nat) (q : Pile),
    s.blk.delivers p d src → s.blk.tags[i] = .pending r n → s.blk.reports src tag kind i r →
    (s.blk.piles.map Pile.id).Nodup → q ∈ s.blk.piles →
    let done := fun effect => completes (.reportDone p d src tag kind []) s (s.blk.afterDone p i effect)
    (∀ f, r.order = .turnPile q.id f → done fun b => b.withPile { q with state := .turned, position := .turner }) ∧
    (∀ u v, r.order = .presentPile q.id → q.move = some (u, v) →
      (v = .inFlight → done fun b => b.withPile { q with move := some (.done, v) }) ∧
      (v = .done → done fun b => b.withPile { q with state := .feeding, position := .lifter, move := none }) ∧
      (v ≠ .inFlight → v ≠ .done → done fun b => b.withPile { q with state := .turned, position := .turner, move := none })) ∧
    (∀ u v, r.order = .acceptPile q.id → q.move = some (u, v) →
      (u = .inFlight → done fun b => b.withPile { q with position := .lifter, move := some (u, .done) }) ∧
      (u ≠ .inFlight → done fun b => b.withPile { q with state := .feeding, position := .lifter, move := none })) ∧
    (r.order = .clearPlatform q.id → done fun b => { b with piles := b.piles.filter fun y => y.id != q.id }))

/-- A FAULT report that matches a PENDING tag frees it and is recorded, and the first one fills the First-Fault Record (R108, R117). It makes the units concerned UNKNOWN and starts recovery (R72), holds the subject lift, that of a Knife Cut as uncertain, and returns the lift and shortens the pile on PILE_SHORT (R30, R32, R63, R64, R66, R91); it returns a pile to be turned or moved again, or fails its clear (R56, R58, R65). The second part gives the part whole; what follows in the same event is the model's finish (log 13). -/
def Obligations.FaultIsRecorded : Prop :=
  (∀ (s : State) (p : Port) (d src tag kind fault : Byte) (i : Fin 32) (r : OrderRecord) (n : Nat) (k : FaultKind),
    s.blk.delivers p d src → s.blk.tags[i] = .pending r n → s.blk.reports src tag kind i r → fault = byte k.code →
    k ≠ .deadline →
    ∃ t, exec (.reportFault p d src tag kind fault) s = .next t ∧
      t.blk.orders.faultCount = min (s.blk.orders.faultCount + 1) 255 ∧
      t.blk.orders.staleCount = s.blk.orders.staleCount ∧
      (s.blk.orders.firstFault = none → t.blk.orders.firstFault = some ⟨i.val, r.order, k, s.blk.lineTime⟩) ∧
      (s.blk.orders.firstFault ≠ none → t.blk.orders.firstFault = s.blk.orders.firstFault) ∧
      t.blk.shows .fault ∧
      (s.blk.sup.mode ≠ .run → t.blk.tags[i] = .free) ∧
      (r.order.role = .gauge → t.blk.cutter.gauge = .unknown) ∧
      (r.order.role = .press → t.blk.cutter.clamp = .unknown) ∧
      (r.order.role = .rotator → t.blk.cutter.rotator = .unknown) ∧
      (r.order.kind = .knifeCut ∨ r.order.kind = .clampUp → t.blk.cutter.knife = .unknown) ∧
      (r.order.kind = .clampDown → t.blk.cutter.knife = s.blk.cutter.knife) ∧
      (r.order.toCutterUnit = true → t.blk.cutter.recovery = .clamp ∧ t.blk.cutter.stage = s.blk.cutter.stage ∧
        t.blk.cutter.cutNumber = s.blk.cutter.cutNumber ∧ t.blk.cutter.cutTarget = s.blk.cutter.cutTarget) ∧
      (r.order.toCutterUnit = false → s.blk.keepsUnits t.blk) ∧ s.blk.keepsSettings t.blk ∧
      ((s.blk.lifts.map Lift.id).Nodup → (s.blk.piles.map Pile.id).Nodup →
        s.blk.losesLift t.blk r.order (some k) ∧ s.blk.losesPile t.blk r.order)) ∧
  (∀ (s : State) (p : Port) (d src tag kind fault : Byte) (i : Fin 32) (r : OrderRecord) (n : Nat) (k : FaultKind),
    s.blk.delivers p d src → s.blk.tags[i] = .pending r n → s.blk.reports src tag kind i r → fault = byte k.code →
    k ≠ .deadline → (s.blk.lifts.map Lift.id).Nodup → (s.blk.piles.map Pile.id).Nodup →
    let c := r.order.lossCause (some k)
    let ends := fun effect => completes (.reportFault p d src tag kind fault) s (s.blk.afterFault p i r.order k effect)
    (∀ x ∈ s.blk.lifts, r.order.lift = some x.id → (r.order.kind = .takeLift → k ≠ .pileShort) →
      (x.state ∈ [LiftState.working, .passing, .clearing] → ends fun b =>
        ((b.withLift { x.endedBy r.order with state := .held c }).setCause .liftHeld).unitsLost r.order) ∧
      (x.state ∉ [LiftState.working, .passing, .clearing] → ends fun b =>
        (b.withLift (x.endedBy r.order)).unitsLost r.order)) ∧
    (r.order.isRecovery = true →
      (∀ x, s.blk.workingAtCutter = some x → ends fun b =>
        ((b.withLift { x with state := .held c }).setCause .liftHeld).unitsLost r.order) ∧
      (s.blk.workingAtCutter = none → ends fun b => b.unitsLost r.order)) ∧
    (∀ x q, x ∈ s.blk.lifts → r.order.lift = some x.id → r.order.kind = .takeLift → k = .pileShort →
      s.blk.pileIn .feeding = some q → ends fun b =>
        ((b.withLift { x with state := .waiting, position := .none }).withPile
          { q with state := .short, clear := some .notIssued }).setCause .pileShort) ∧
    (∀ q ∈ s.blk.piles, r.order.pile = some q.id →
      (r.order.kind = .turnPile → ends fun b => b.withPile { q with state := .declared, position := .none }) ∧
      (∀ u v, r.order.kind = .presentPile → q.move = some (u, v) →
        (v = .inFlight → ends fun b => b.withPile { q with move := some (.ended, v) }) ∧
        (v = .done → ends fun b => b.withPile { q with state := .feeding, position := .lifter, move := none }) ∧
        (v ≠ .inFlight → v ≠ .done → ends fun b =>
          b.withPile { q with state := .turned, position := .turner, move := none })) ∧
      (∀ u v, r.order.kind = .acceptPile → q.move = some (u, v) →
        (u = .inFlight → ends fun b => b.withPile { q with move := some (u, .ended) }) ∧
        (u ≠ .inFlight → ends fun b => b.withPile { q with state := .turned, position := .turner, move := none })) ∧
      (r.order.kind = .clearPlatform → ends fun b => b.withPile { q with clear := some .failed })))

/-- A report that matches a QUARANTINED tag frees it and reaches no owner; ABANDONED is not counted, DONE and FAULT are counted stale (R109); what follows in the same event is the model's finish (log 13). A report on a FREE tag, one that does not match its tag's record, an ABANDONED that matches a PENDING tag, and a malformed report are stale: counted, STALE set, and nothing else changed but a NOTICE then due (R110, R210). -/
def Obligations.ReportsThatEndNoOrder : Prop :=
  (∀ (s : State) (p : Port) (d src tag kind : Byte) (i : Fin 32) (r : OrderRecord) (c : QuarantineCause) (n : Nat),
    s.blk.delivers p d src → s.blk.tags[i] = .quarantined r c n → s.blk.reports src tag kind i r →
    let freed := { s.blk.consumed p with tags := s.blk.tags.set i .free }
    completes (.reportAbandoned p d src tag kind) s freed.finish ∧
    (∀ fault : Byte, 1 ≤ fault.toNat → fault.toNat ≤ 7 →
      completes (.reportFault p d src tag kind fault) s freed.stale.finish) ∧
    (∀ data : List Byte, data.length = doneLength kind →
      completes (.reportDone p d src tag kind data) s freed.stale.finish) ∧
    (freed.stale.orders.staleCount = min (s.blk.orders.staleCount + 1) 65535 ∧ freed.stale.shows .stale) ∧
    ∀ b ∈ [freed, freed.stale],
      freed.lifts = s.blk.lifts ∧ b.finish.lifts.map Lift.identity = s.blk.lifts.map Lift.identity ∧
      b.finish.piles.map Pile.identity = s.blk.piles.map Pile.identity ∧ s.blk.keepsUnits b.finish ∧
      s.blk.keepsSettings b.finish ∧ b.finish.sup = s.blk.sup ∧ b.finish.orders.firstFault = s.blk.orders.firstFault ∧
      b.finish.orders.faultCount = s.blk.orders.faultCount ∧ b.finish.orders.staleCount = b.orders.staleCount ∧
      (b.shows .stale → b.finish.shows .stale) ∧ freed.keepsTags b.finish ∧ (s.blk.sup.mode ≠ .run → b.finish.tags[i] = .free)) ∧
  (∀ (s : State) (p : Port) (d src tag kind : Byte) (i : Fin 32) (r : OrderRecord),
    s.blk.delivers p d src → tag = byte i.val →
    ((s.blk.tags[i] = .free ∨
        (s.blk.tags[i].record = some r ∧
          (s.blk.roles.get r.order.role ≠ some (addressOf src) ∨ kind ≠ byte r.order.kind.code))) →
      (∀ data : List Byte, data.length = doneLength kind →
        completes (.reportDone p d src tag kind data) s (s.blk.consumed p).stale.placeNotice) ∧
      (∀ fault : Byte, 1 ≤ fault.toNat → fault.toNat ≤ 7 →
        completes (.reportFault p d src tag kind fault) s (s.blk.consumed p).stale.placeNotice) ∧
      completes (.reportAbandoned p d src tag kind) s (s.blk.consumed p).stale.placeNotice) ∧
    (∀ n, s.blk.tags[i] = .pending r n →
      completes (.reportAbandoned p d src tag kind) s (s.blk.consumed p).stale.placeNotice) ∧
    (∀ payload : List Byte, payload.length ≤ 48 → reportFits payload = false →
      completes (.reportMalformed p d src payload) s (s.blk.consumed p).stale.placeNotice))

/-- READY sets the ready mark of the station that has the source's role: an order it lets issue at once clears it again, and where the station had an order PENDING before, the mark stays set (R25, R53); READY from the LIFTER makes a failed clear ready for retry (R65), one from GAUGE or PRESS is discarded (R172). READY from the idle ROTATOR makes it READY, and in recovery stage ROTATOR it ends the recovery, which settles the cut in hand where the law of the slots holds (R73, R93, R95). What follows in the same event is the model's finish (log 13). -/
def Obligations.ReadySetsTheMark : Prop :=
  (∀ (s : State) (p : Port) (d src : Byte) (r : Role),
    s.blk.delivers p d src → s.blk.roles.roleOf (addressOf src) = some r →
    ∃ t, exec (.ready p d src) s = .next t ∧
      (r = .jogger → t.blk.tracker.jogger = true ∨ (s.blk.busy .jogger = false ∧ t.blk.busy .jogger = true)) ∧
      (r = .rotator → t.blk.tracker.rotator = true ∨ (s.blk.busy .rotator = false ∧ t.blk.busy .rotator = true)) ∧
      (r = .outfeed → t.blk.tracker.outfeed = true ∨ (s.blk.busy .outfeed = false ∧ t.blk.busy .outfeed = true)) ∧
      (r = .turner → t.blk.infeed.turnerMark = true ∨ (s.blk.busy .turner = false ∧ t.blk.busy .turner = true)) ∧
      (r = .lifter → ∀ q ∈ t.blk.piles, q.clear ≠ some .failed) ∧
      (r = .rotator → s.blk.busy .rotator = false → t.blk.cutter.rotator = .ready) ∧
      (r = .rotator → s.blk.busy .rotator = true → t.blk.cutter.rotator = s.blk.cutter.rotator) ∧
      (r ≠ .rotator → s.blk.keepsUnits t.blk) ∧
      ((r = .gauge ∨ r = .press ∨ r = .cell) → t.blk = s.blk.consumed p) ∧
      s.blk.keepsTags t.blk ∧ s.blk.keepsFaults t.blk ∧ s.blk.keepsSettings t.blk ∧ t.blk.sup = s.blk.sup) ∧
  (∀ (s : State) (p : Port) (d src : Byte) (b : Coordinator),
    s.blk.delivers p d src → b = s.blk.consumed p → (s.blk.lifts.map Lift.id).Nodup →
    let sets := fun e : Coordinator => completes (.ready p d src) s e.finish
    let marked := { b with tracker := { b.tracker with rotator := true } }
    let heard := { marked with cutter := { marked.cutter with rotator := .ready } }
    (s.blk.roles.roleOf (addressOf src) = some .jogger → sets { b with tracker := { b.tracker with jogger := true } }) ∧
    (s.blk.roles.roleOf (addressOf src) = some .outfeed → sets { b with tracker := { b.tracker with outfeed := true } }) ∧
    (s.blk.roles.roleOf (addressOf src) = some .turner → sets { b with infeed := { b.infeed with turnerMark := true } }) ∧
    (s.blk.roles.roleOf (addressOf src) = some .lifter → sets { b with
      piles := b.piles.map fun q => if q.clear = some .failed then { q with clear := some .notIssued } else q }) ∧
    (s.blk.roles.roleOf (addressOf src) = some .rotator →
      (s.blk.busy .rotator = true → sets marked) ∧
      (s.blk.busy .rotator = false → s.blk.cutter.recovery ≠ .rotator → sets heard) ∧
      (s.blk.busy .rotator = false → s.blk.cutter.recovery = .rotator → s.blk.slotLaw → sets heard.recovered)))

/-- A CALL gets no answer of its own while one of its station is outstanding. With none outstanding, a CALL from the LIFTER is answered Idle with the reason of the first check of R59 that fails; one from the TURNER sets its ready mark and is answered by the first case of R54 that applies. One that is to be answered with work is outstanding where its station can be reached, and is otherwise settled by an Idle, which is not sent where the station has no route to a port that is UP (R178, R179); the reason of that Idle is a free value (log 39). What follows in the same event is the model's finish (log 13). -/
def Obligations.CallsAreAnswered : Prop :=
  (∀ (s : State) (p : Port) (d src : Byte),
    s.blk.delivers p d src → s.blk.roles.roleOf (addressOf src) = some .lifter →
    let reached := s.blk.portOf (addressOf src) = some .west ∧ s.blk.west.state = .up
    let works :=
      (reached → completes (.call p d src) s
        ({ s.blk.consumed p with
            infeed := { s.blk.infeed with lifterCall := true }
            arbiter := { s.blk.arbiter with flags := { s.blk.arbiter.flags with lifter := true } } }).finish) ∧
      (¬ reached → ∃ reason n, completes (.call p d src) s
        (({ s.blk.consumed p with draws := n }).idle .lifter reason).finish)
    (s.blk.infeed.lifterCall = true → completes (.call p d src) s (s.blk.consumed p).finish) ∧
    (s.blk.infeed.lifterCall = false →
    (s.blk.sup.mode ≠ .run → completes (.call p d src) s ((s.blk.consumed p).idle .lifter .stopped).finish) ∧
    (s.blk.sup.mode = .run → (∀ q ∈ s.blk.piles, q.position ≠ .lifter ∨ (q.state ≠ .feeding ∧ q.state ≠ .empty)) →
      completes (.call p d src) s ((s.blk.consumed p).idle .lifter .noPile).finish) ∧
    (∀ q, s.blk.sup.mode = .run → s.blk.piles.find? (fun q => q.position == .lifter && (q.state == .feeding || q.state == .empty)) = some q →
      (q.state = .empty → completes (.call p d src) s ((s.blk.consumed p).idle .lifter .budgetZero).finish) ∧
      (q.state = .feeding → (∃ l ∈ s.blk.lifts, l.state = .working ∧ l.position = .lifter ∧ s.blk.liftBusy l.id = false) →
        works) ∧
      (q.state = .feeding →
        (∀ l ∈ s.blk.lifts, ¬ (l.state = .working ∧ l.position = .lifter ∧ s.blk.liftBusy l.id = false)) →
        ((∀ l ∈ s.blk.lifts, l.state ≠ .waiting) →
          completes (.call p d src) s ((s.blk.consumed p).idle .lifter .noLift).finish) ∧
        ((∃ l ∈ s.blk.lifts, l.state = .waiting) → (s.blk.posEntry .lifter ≠ .free ∨ s.blk.busy .lifter = true) →
          completes (.call p d src) s ((s.blk.consumed p).idle .lifter .positionBusy).finish) ∧
        ((∃ l ∈ s.blk.lifts, l.state = .waiting) → s.blk.posEntry .lifter = .free → s.blk.busy .lifter = false →
          works))))) ∧
  (∀ (s : State) (p : Port) (d src : Byte),
    s.blk.delivers p d src → s.blk.roles.roleOf (addressOf src) = some .turner →
    let reached := s.blk.portOf (addressOf src) = some .west ∧ s.blk.west.state = .up
    let works :=
      (reached → completes (.call p d src) s
        ({ s.blk.consumed p with infeed := { s.blk.infeed with turnerMark := true, turnerCall := true } }).finish) ∧
      (¬ reached → ∃ reason n, completes (.call p d src) s
        (({ s.blk.consumed p with infeed := { s.blk.infeed with turnerMark := true }, draws := n }).idle .turner reason).finish)
    (s.blk.infeed.turnerCall = true →
      completes (.call p d src) s ({ s.blk.consumed p with infeed := { s.blk.infeed with turnerMark := true } }).finish) ∧
    (s.blk.infeed.turnerCall = false →
    (s.blk.sup.mode ≠ .run →
      completes (.call p d src) s
        (({ s.blk.consumed p with infeed := { s.blk.infeed with turnerMark := true } }).idle .turner .stopped).finish) ∧
    (s.blk.sup.mode = .run → (∃ q ∈ s.blk.piles, q.state = .declared) → s.blk.turnerHeld = false →
      works) ∧
    (s.blk.sup.mode = .run → (∃ q ∈ s.blk.piles, q.state = .turned) → s.blk.platformHeld = false → s.blk.busy .turner = false →
      s.blk.busy .lifter = false → 2 ≤ s.blk.freeTags →
      works) ∧
    (s.blk.sup.mode = .run → ((∀ q ∈ s.blk.piles, q.state ≠ .turned) ∨ s.blk.platformHeld = true ∨ s.blk.busy .turner = true ∨
        s.blk.busy .lifter = true ∨ s.blk.freeTags < 2) → s.blk.turnerHeld = true →
      completes (.call p d src) s
        (({ s.blk.consumed p with infeed := { s.blk.infeed with turnerMark := true } }).idle .turner .positionBusy).finish) ∧
    (s.blk.sup.mode = .run → (∀ q ∈ s.blk.piles, q.state ≠ .declared) → s.blk.turnerHeld = false →
      completes (.call p d src) s
        (({ s.blk.consumed p with infeed := { s.blk.infeed with turnerMark := true } }).idle .turner .noPile).finish)))

/-- ATTENTION replaces the ATTENTION record, raises its count and sets STATION (R172, R203); an EVENT that is no READY, CALL or ATTENTION is consumed and nothing more (R172, R210). -/
def Obligations.AttentionIsNoted : Prop :=
  ∀ (s : State) (p : Port) (d src cause : Byte) (r : Role) (payload : List Byte),
    s.blk.delivers p d src →
    (s.blk.roles.roleOf (addressOf src) = some r → r ≠ .cell →
      (s.blk.notices.attention = none →
        completes (.attention p d src cause) s
          ((({ s.blk.consumed p with notices := { s.blk.notices with attention := some ⟨r, cause, 1⟩ } }).setCause
            .station).placeNotice)) ∧
      (∀ a, s.blk.notices.attention = some a →
        completes (.attention p d src cause) s
          ((({ s.blk.consumed p with
              notices := { s.blk.notices with attention := some ⟨r, cause, min (a.count + 1) 255⟩ } }).setCause
            .station).placeNotice))) ∧
    (payload.length ≤ 48 → (payload = [] ∨ (∃ k rest, payload = k :: rest ∧ k.toNat ∉ [1, 2, 3]) ∨ payload = [3]) →
      completes (.eventDiscarded p d src payload) s (s.blk.consumed p))

/-- The forward step places a DATA frame unchanged in the out-port's queue, or drops it for want of a route or of room, and counts it at the receiving port; a broadcast is consumed besides (R170, R173, R182). So it does with the frame of every report and event whose destination is another station, and a broadcast one has the effect it has when it is addressed to the Coordinator, and is forwarded after that (R170; the order: log 31). A MANUAL frame passes in SETUP alone, from the CELL address on WEST, to GAUGE, PRESS or ROTATOR, and is otherwise dropped and, from the cell computer, answered BLOCKED with the reason MODE, ROLE, ROUTE or FULL; with no room on WEST it is dropped without an answer (R174; the echoed kind: log 6). -/
def Obligations.ForwardStepAndManualFrames : Prop :=
  (∀ (s : State) (p q : Port) (d src : Byte) (payload : List Byte),
    (s.blk.link p).isUp = true → payload.length ≤ 48 → addressOf src ≠ 0 → addressOf src ≠ 63 →
    (addressOf d = 63 → completes (.dataReceived p d src payload) s (s.blk.consumed p)) ∧
    (addressOf d = 0 → (s.blk.link p.other).isUp = true → (s.blk.link p.other).forward.length < 16 →
      completes (.dataReceived p d src payload) s
        (((s.blk.consumed p).modLink p.other fun l =>
          ({ l with forward := l.forward ++ [(⟨⟨d, src, kindData, payload⟩, p⟩ : ForwardedFrame)] }).transmit).countRouter p
            RouterCounters.addForwarded)) ∧
    (addressOf d = 0 → (s.blk.link p.other).isUp = false →
      completes (.dataReceived p d src payload) s ((s.blk.consumed p).countRouter p RouterCounters.addNoRoute)) ∧
    (addressOf d = 0 → (s.blk.link p.other).isUp = true → 16 ≤ (s.blk.link p.other).forward.length →
      completes (.dataReceived p d src payload) s ((s.blk.consumed p).countRouter p RouterCounters.addQueueFull)) ∧
    (addressOf d ≠ 0 → addressOf d ≠ 63 → s.blk.portOf (addressOf d) = some q → q ≠ p → (s.blk.link q).isUp = true →
      (s.blk.link q).forward.length < 16 →
      completes (.dataReceived p d src payload) s
        (((s.blk.heard p).modLink q fun l =>
          ({ l with forward := l.forward ++ [(⟨⟨d, src, kindData, payload⟩, p⟩ : ForwardedFrame)] }).transmit).countRouter p
            RouterCounters.addForwarded)) ∧
    (addressOf d ≠ 0 → addressOf d ≠ 63 → (s.blk.portOf (addressOf d) = none ∨ s.blk.portOf (addressOf d) = some p ∨
        (s.blk.portOf (addressOf d) = some q ∧ (s.blk.link q).isUp = false)) →
      completes (.dataReceived p d src payload) s ((s.blk.heard p).countRouter p RouterCounters.addNoRoute)) ∧
    (addressOf d ≠ 0 → addressOf d ≠ 63 → s.blk.portOf (addressOf d) = some q → q ≠ p → (s.blk.link q).isUp = true →
      16 ≤ (s.blk.link q).forward.length →
      completes (.dataReceived p d src payload) s ((s.blk.heard p).countRouter p RouterCounters.addQueueFull))) ∧
  (∀ (s : State) (p : Port) (d src : Byte) (payload : List Byte),
    (s.blk.link p).isUp = true → payload.length ≤ 48 → addressOf src ≠ 0 → addressOf src ≠ 63 →
    ((p = .east ∨ addressOf src ≠ s.blk.roles.cell) →
      completes (.manualReceived p d src payload) s ((s.blk.heard p).countRouter p RouterCounters.addFilter)) ∧
    (p = .west → addressOf src = s.blk.roles.cell → s.blk.sup.mode ≠ .setup →
      blocked s d src payload RouterCounters.addFilter 0) ∧
    (p = .west → addressOf src = s.blk.roles.cell → s.blk.sup.mode = .setup →
      (∀ r ∈ [Role.gauge, Role.press, Role.rotator], s.blk.roles.get r ≠ some (addressOf d)) →
      blocked s d src payload RouterCounters.addFilter 1) ∧
    (p = .west → addressOf src = s.blk.roles.cell → s.blk.sup.mode = .setup → addressOf d ≠ 0 →
      (∃ r ∈ [Role.gauge, Role.press, Role.rotator], s.blk.roles.get r = some (addressOf d)) →
      (s.blk.portOf (addressOf d) ≠ some .east ∨ s.blk.east.isUp = false) →
      blocked s d src payload RouterCounters.addNoRoute 2) ∧
    (p = .west → addressOf src = s.blk.roles.cell → s.blk.sup.mode = .setup → addressOf d ≠ 0 →
      (∃ r ∈ [Role.gauge, Role.press, Role.rotator], s.blk.roles.get r = some (addressOf d)) →
      s.blk.portOf (addressOf d) = some .east → s.blk.east.isUp = true → 16 ≤ s.blk.east.forward.length →
      blocked s d src payload RouterCounters.addQueueFull 3) ∧
    (p = .west → addressOf src = s.blk.roles.cell → s.blk.sup.mode = .setup → addressOf d ≠ 0 →
      (∃ r ∈ [Role.gauge, Role.press, Role.rotator], s.blk.roles.get r = some (addressOf d)) →
      s.blk.portOf (addressOf d) = some .east → s.blk.east.isUp = true → s.blk.east.forward.length < 16 →
      completes (.manualReceived p d src payload) s
        (((s.blk.heard p).modLink .east fun l =>
          ({ l with forward := l.forward ++ [(⟨⟨d, src, kindManual, payload⟩, p⟩ : ForwardedFrame)] }).transmit).countRouter p
            RouterCounters.addForwarded))) ∧
  (∀ (s : State) (p : Port) (src tag order fault cause : Byte) (payload : List Byte),
    (s.blk.link p).isUp = true → addressOf src ≠ 0 → addressOf src ≠ 63 → payload.length ≤ 45 →
    let travels := fun (c : Byte → Instr) (kind : Byte) (payload : List Byte) =>
      (∀ d : Byte, addressOf d ≠ 0 → addressOf d ≠ 63 →
        completes (c d) s ((s.blk.heard p).passedOn p ((s.blk.portOf (addressOf d)).filter fun q => q ≠ p)
          ⟨d, src, kind, payload⟩)) ∧
      (∀ d e : Byte, addressOf d = 63 → addressOf e = 0 → ∀ b, completes (c d) s b →
        completes (c e) s (b.passedOn p (some p.other) ⟨e, src, kind, payload⟩))
    travels (fun d => .reportDone p d src tag order payload) 6 (tag :: order :: 1 :: payload) ∧
    travels (fun d => .reportFault p d src tag order fault) 6 [tag, order, 2, fault] ∧
    travels (fun d => .reportAbandoned p d src tag order) 6 [tag, order, 3] ∧
    travels (fun d => .reportMalformed p d src payload) 6 payload ∧ travels (fun d => .ready p d src) 7 [1] ∧
    travels (fun d => .call p d src) 7 [2] ∧ travels (fun d => .attention p d src cause) 7 [3, cause] ∧
    travels (fun d => .eventDiscarded p d src payload) 7 payload)

/-- Frames of kinds the Coordinator originates or does not know, frames whose source is 0 or 63, and REQUEST frames to another destination are filter drops (R169, R170). A bad frame in UP (too long, of the wrong size, or with a wrong check) is a bad-check drop and lengthens the run, and the sixteenth in a row takes the port DOWN (R169, R189, R190, R209). -/
def Obligations.ScreenedAndBadFramesAreDropped : Prop :=
  (∀ (s : State) (p : Port) (f : Frame), (s.blk.link p).isUp = true → f.payload.length ≤ 48 → f.kind ≠ 1 →
    (addressOf f.src = 0 ∨ addressOf f.src = 63 ∨ f.kind.toNat ∉ [2, 6, 7, 8, 9] ∨ (f.kind = 2 ∧ addressOf f.dst ≠ 63)) →
    completes (.frameFiltered p f) s ((s.blk.heard p).countRouter p RouterCounters.addFilter)) ∧
  (∀ (s : State) (p : Port) (bytes : List Byte), (s.blk.link p).isUp = true →
    (bytes.length < 6 ∨
      (∃ d a k n rest, bytes = d :: a :: k :: n :: rest ∧
        (48 < n.toNat ∨ rest.length ≠ n.toNat + 2 ∨
          rest.drop n.toNat ≠ be2 (crc (d :: a :: k :: n :: rest.take n.toNat)).toNat))) →
    ((s.blk.link p).badRun < 15 →
      completes (.frameBadCheck p bytes) s
        ((s.blk.countRouter p RouterCounters.addBadCheck).modLink p fun l => { l with badRun := l.badRun + 1 })) ∧
    (15 ≤ (s.blk.link p).badRun → ∃ t, exec (.frameBadCheck p bytes) s = .next t ∧ s.blk.lostPort t.blk p .badRun))

/-! ### Link ports -/

/-- HELLO frames: in UP a good one with the answer flag clear sets HELLO answer pending, one with it set is not answered, one that is no good HELLO only ends the bad-check run (R189, R209); in VERIFY they are counted, and with two heard a heard count of 2 brings the port UP (R188, R191). Every other frame in VERIFY is an early-frame discard (R188, R193). A HELLO on a port in DOWN, ALIGN or LOCK changing nothing is the model's choice (log 9), and so is the reading of its flag byte (log 22). -/
def Obligations.VerifyExchangesHellos : Prop :=
  (∀ (s : State) (p : Port) (d src heard flag : Byte) (payload : List Byte),
    ((s.blk.link p).state = .up → heard.toNat ≤ 2 → flag = 0 →
      completes (.helloReceived p d src [heard, flag]) s
        ((s.blk.heard p).modLink p fun l => ({ l with helloAnswer := true }).transmit)) ∧
    ((s.blk.link p).state = .up → heard.toNat ≤ 2 → flag = 1 →
      completes (.helloReceived p d src [heard, flag]) s (s.blk.heard p)) ∧
    ((s.blk.link p).state = .up → payload.length ≤ 48 → (payload.length ≠ 2 ∨ payload = [3, flag]) →
      completes (.helloReceived p d src payload) s (s.blk.heard p)) ∧
    ((s.blk.link p).state = .verify → heard.toNat ≤ 2 → ((s.blk.link p).hellos = 0 ∨ heard.toNat ≠ 2) →
      completes (.helloReceived p d src [heard, flag]) s
        (s.blk.modLink p fun l => { l with hellos := min (l.hellos + 1) 2 })) ∧
    ((s.blk.link p).state = .verify → 1 ≤ (s.blk.link p).hellos → heard.toNat = 2 →
      ∃ t, exec (.helloReceived p d src [heard, flag]) s = .next t ∧ (t.blk.link p).state = .up ∧
        (t.blk.link p).badRun = 0 ∧ (t.blk.link p).counters.ups = min ((s.blk.link p).counters.ups + 1) 65535 ∧
        (t.blk.link p).counters.losses = (s.blk.link p).counters.losses ∧ t.blk.shows .portChange ∧
        t.blk.sup = s.blk.sup ∧ s.blk.keepsTags t.blk ∧ s.blk.keepsUnits t.blk ∧ s.blk.keepsSettings t.blk) ∧
    (((s.blk.link p).state = .down ∨ (s.blk.link p).state = .align ∨ (s.blk.link p).state = .lock) →
      payload.length ≤ 48 → completes (.helloReceived p d src payload) s s.blk)) ∧
  (∀ (s : State) (p : Port) (rx : Reception), (s.blk.link p).state = .verify →
    (rx = .bad ∨ ∃ f, rx = .good f ∧ (f.kind ≠ 1 ∨ f.payload.length ≠ 2 ∨ ∃ h flag, f.payload = [h, flag] ∧ 2 < h.toNat)) →
    completes (.earlyFrameDiscard p rx) s
      (s.blk.modLink p fun l =>
        { l with counters := { l.counters with earlyDiscards := min (l.counters.earlyDiscards + 1) 65535 } }))

/-- The bring-up of a port, event by event (R185 to R188): every other part of the Coordinator, and every state the event does not concern, is left as it was. An event out of its state changing nothing is the model's choice (log 9). -/
def Obligations.BringUpFollowsItsStates : Prop :=
  ∀ (s : State) (p : Port) (l : Link), s.blk.link p = l →
    completes (.retryDelayExpiry p) s (s.blk.modLink p fun _ =>
      if l.state = .down then
        { l with state := .align, rate := l.stagedRate, active := l.staged, bringUp := 0, window := 0, badRun := 0, retryDelay := 0 }
      else l) ∧
    completes (.alignWindowExpiry p) s (s.blk.modLink p fun _ => if l.state = .align then { l with window := 0 } else l) ∧
    completes (.alignPatternFound p) s (s.blk.modLink p fun _ =>
      if l.state = .align then { l with state := .lock, window := 0 } else l) ∧
    completes (.receiverLock p) s (s.blk.modLink p fun _ =>
      if l.state = .lock ∧ l.active.lockIgnore = false then
        { l with state := .verify, window := 0, hellos := 0, sending := some ⟨helloFrame 0 false, false⟩ }
      else l) ∧
    completes (.lockWaitExpiry p) s (s.blk.modLink p fun _ =>
      if l.state = .lock ∧ l.active.lockIgnore = true then
        { l with state := .verify, window := 0, hellos := 0, sending := some ⟨helloFrame 0 false, false⟩ }
      else if l.state = .lock then
        { l with
          state := .down, retryDelay := 100, sending := none
          counters := { l.counters with failures := min (l.counters.failures + 1) 65535 } }
      else l) ∧
    completes (.helloSend p) s (s.blk.modLink p fun _ =>
      if l.state = .verify then { l with sending := some ⟨helloFrame l.hellos false, false⟩ } else l) ∧
    completes (.verifyWindowExpiry p) s (s.blk.modLink p fun _ =>
      if l.state = .verify then
        { l with
          state := .down, retryDelay := 100, sending := none
          counters := { l.counters with failures := min (l.counters.failures + 1) 65535 } }
      else l) ∧
    completes (.bringUpLimitExpiry p) s (s.blk.modLink p fun _ =>
      if l.state = .align ∨ l.state = .lock ∨ l.state = .verify then
        { l with
          state := .down, retryDelay := 100, sending := none
          counters := { l.counters with failures := min (l.counters.failures + 1) 65535 } }
      else l)

/-- A port in UP goes DOWN at a loss of lock with lock-ignore clear and at the neighbour's align pattern (R189, R190); elsewhere these events change nothing. An event out of its state changing nothing is the model's choice (log 9). -/
def Obligations.LinkLossTakesThePortDown : Prop :=
  ∀ (s : State) (p : Port),
    ((s.blk.link p).state = .up → (s.blk.link p).active.lockIgnore = false →
      ∃ t, exec (.lockLost p) s = .next t ∧ s.blk.lostPort t.blk p .lockLost) ∧
    ((s.blk.link p).state = .up → ∃ t, exec (.alignSeen p) s = .next t ∧ s.blk.lostPort t.blk p .alignSeen) ∧
    (((s.blk.link p).state ≠ .up ∨ (s.blk.link p).active.lockIgnore = true) → completes (.lockLost p) s s.blk) ∧
    ((s.blk.link p).state ≠ .up → completes (.alignSeen p) s s.blk)

/-- The frame being sent has been sent: a port that is UP takes the next by the cases of R181, a port that is not UP sends none after it, and the end of the ANSWER that a retrain waited for takes the WEST port DOWN (R192). An own frame that leaves a full WEST queue makes room for the ANSWER of the request waiting at the front, which is carried out in that event as its row carries it out (R181, R196; log 12). What follows in the same event is the model's finish (log 13). -/
def Obligations.TransmitterTakesTheNextFrameOrRetrains : Prop :=
  (∀ (s : State) (p : Port) (l : Link) (f : OwnFrame), s.blk.link p = l → l.state = .up → l.sending = some f →
    (l.retrain = false ∨ f.answerOfRetrain = false) →
    let noRoomCame := p = .east ∨ s.blk.agent = [] ∨ l.own.length ≠ 24
    let carriesWaiting := fun u : Coordinator => ∀ (q : Frame) (rest : List Frame) (kind number : Byte) (args : List Byte)
      (b : Coordinator), s.blk.agent = q :: rest → q.payload = kind :: number :: args →
      completes (requestRow kind.toNat) { s with blk := u } b → completes (.transmitDone p) s b.finish
    (l.halt = true → completes (.transmitDone p) s
      (s.blk.modLink p fun _ => { l with halt := false, sending := some ⟨haltFrame, false⟩ }).finish) ∧
    (l.halt = false → l.helloAnswer = true → completes (.transmitDone p) s
      (s.blk.modLink p fun _ => { l with helloAnswer := false, sending := some ⟨helloFrame 2 true, false⟩ }).finish) ∧
    (∀ x xs, l.halt = false → l.helloAnswer = false → l.forward = x :: xs → (4 ≤ l.burst ∨ l.own = []) →
      completes (.transmitDone p) s
        (s.blk.modLink p fun _ => { l with forward := xs, burst := 0, sending := some ⟨x.frame, false⟩ }).finish) ∧
    (∀ o os, l.halt = false → l.helloAnswer = false → l.own = o :: os → l.forward ≠ [] → l.burst < 4 →
      let u := s.blk.modLink p fun _ => { l with own := os, burst := l.burst + 1, sending := some o }
      (noRoomCame → completes (.transmitDone p) s u.finish) ∧ (p = .west → l.own.length = 24 → carriesWaiting u)) ∧
    (∀ o os, l.halt = false → l.helloAnswer = false → l.own = o :: os → l.forward = [] →
      let u := s.blk.modLink p fun _ => { l with own := os, sending := some o }
      (noRoomCame → completes (.transmitDone p) s u.finish) ∧ (p = .west → l.own.length = 24 → carriesWaiting u)) ∧
    (l.halt = false → l.helloAnswer = false → l.own = [] → l.forward = [] →
      completes (.transmitDone p) s (s.blk.modLink p fun _ => { l with sending := none }).finish)) ∧
  (∀ (s : State) (p : Port) (f : OwnFrame), (s.blk.link p).sending = some f →
    ((s.blk.link p).state ≠ .up →
      completes (.transmitDone p) s (s.blk.modLink p fun l => { l with sending := none })) ∧
    ((s.blk.link p).state = .up → (s.blk.link p).retrain = true → f.answerOfRetrain = true →
      ∃ t, exec (.transmitDone p) s = .next t ∧ (s.blk.modLink p fun l => { l with sending := none }).lostPort t.blk p .retrain))

/-! ### Expiries and placements -/

/-- The deadline of a PENDING order passes: the tag is QUARANTINED with the quarantine time as it stands, the fault is recorded, the units are lost and recovery starts, and for the PRESS the line goes to SAFE (R111, R113, R117, R72, R155). The subject lift is held, that of a Knife Cut as uncertain (R30, R32, R64, R66, R91); a pile is returned to be turned or moved again, or its clear fails (R56, R58, R65). -/
def Obligations.DeadlineQuarantinesTheTag : Prop :=
  ∀ (s : State) (i : Fin 32) (r : OrderRecord) (n : Nat), s.blk.tags[i] = .pending r n →
    ∃ t, exec (.deadlinePass i) s = .next t ∧
      t.blk.tags[i] = .quarantined r .deadline s.blk.timing[20] ∧
      t.blk.orders.faultCount = min (s.blk.orders.faultCount + 1) 255 ∧
      (s.blk.orders.firstFault = none → t.blk.orders.firstFault = some ⟨i.val, r.order, .deadline, s.blk.lineTime⟩) ∧
      (s.blk.orders.firstFault ≠ none → t.blk.orders.firstFault = s.blk.orders.firstFault) ∧
      t.blk.orders.staleCount = s.blk.orders.staleCount ∧ t.blk.shows .fault ∧
      (r.order.role = .gauge → t.blk.cutter.gauge = .unknown) ∧
      (r.order.role = .press → t.blk.cutter.clamp = .unknown) ∧
      (r.order.role = .rotator → t.blk.cutter.rotator = .unknown) ∧
      (r.order.kind = .knifeCut ∨ r.order.kind = .clampUp → t.blk.cutter.knife = .unknown) ∧
      (r.order.toCutterUnit = true → t.blk.cutter.recovery = .clamp ∧ t.blk.cutter.stage = s.blk.cutter.stage ∧
        t.blk.cutter.cutNumber = s.blk.cutter.cutNumber ∧ t.blk.cutter.cutTarget = s.blk.cutter.cutTarget) ∧
      (r.order.toCutterUnit = false → s.blk.keepsUnits t.blk) ∧
      ((s.blk.lifts.map Lift.id).Nodup → (s.blk.piles.map Pile.id).Nodup →
        s.blk.losesLift t.blk r.order none ∧ s.blk.losesPile t.blk r.order) ∧
      (r.order.role = .press → s.blk.sup.mode ≠ .safe →
        t.blk.sup.mode = .safe ∧ t.blk.sup.cause = .deadline ∧ t.blk.sup.safeOutput = true ∧
        ∀ (j : Fin 32) q d, j ≠ i → s.blk.tags[j] = .pending q d → t.blk.tags[j] = .quarantined q .stopped s.blk.timing[20]) ∧
      (r.order.role ≠ .press → t.blk.sup = s.blk.sup ∧
        ∀ j : Fin 32, j ≠ i → s.blk.tags[j] ≠ .free → t.blk.tags[j] = s.blk.tags[j]) ∧
      s.blk.keepsSettings t.blk

/-- A quarantine timer that runs out frees its tag and does nothing else of its own (R116). A spacing interval that has run out counts as at least as long ago as its entry says, and the orders it kept waiting are tested again (R74, R85); a hold-off that has run out lets a due NOTICE be placed (R204): the last two rest on log 8, the expiry taken as run out. What follows in the same event is the model's finish (log 13). -/
def Obligations.TimersRunOut : Prop :=
  (∀ (s : State) (i : Fin 32) (r : OrderRecord) (c : QuarantineCause) (n : Nat), s.blk.tags[i] = .quarantined r c n →
    completes (.quarantineTimeout i) s ({ s.blk with tags := s.blk.tags.set i .free }).finish) ∧
  (∀ s : State,
    (∀ (e : SpacingEntry) (x y : Spacing), x = s.blk.cutter.spacing →
      (e, y) ∈ [(SpacingEntry.s0, { x with clampUp := x.clampUp.map (max s.blk.timing[0]) }),
        (.s1, { x with gauge := x.gauge.map (max s.blk.timing[1]) }),
        (.s2, { x with clampDown := x.clampDown.map (max s.blk.timing[2]) }),
        (.s3, { x with knifeCut := x.knifeCut.map (max s.blk.timing[3]) }),
        (.s4, { x with knifeRelease := x.knifeRelease.map (max s.blk.timing[4]) }),
        (.s5, { x with clampUp := x.clampUp.map (max s.blk.timing[5]) }),
        (.s6, { x with rotate := x.rotate.map (max s.blk.timing[6]) }),
        (.s7s, { x with knifeIssue := x.knifeIssue.map (max s.blk.timing[7]) }),
        (.s7l, { x with knifeIssue := x.knifeIssue.map (max s.blk.timing[8]) })] →
      completes (.spacingExpiry e) s ({ s.blk with cutter := { s.blk.cutter with spacing := y } }).finish) ∧
    completes .holdOffExpiry s
      ({ s.blk with notices := { s.blk.notices with since := max s.blk.notices.since s.blk.notices.holdOff } }).placeNotice)

/-- The watchdog's period expires while it runs: a failure, which holds the running line below the escalation count and takes every mode to SAFE at it (R156, R158); a stopped watchdog cannot expire. -/
def Obligations.WatchdogExpiryEscalates : Prop :=
  ∀ s : State,
    (s.blk.sup.running = false → completes .watchdogExpiry s s.blk) ∧
    (s.blk.sup.running = true → ∃ t, exec .watchdogExpiry s = .next t ∧ t.blk.shows .supervision ∧
      t.blk.sup.failures = min (s.blk.sup.failures + 1) s.blk.sup.escalation ∧ t.blk.sup.elapsed = 0 ∧
      (s.blk.sup.mode ≠ .safe → s.blk.sup.escalation ≤ s.blk.sup.failures + 1 → s.blk.enteredSafe t.blk .watchdog) ∧
      (s.blk.sup.mode = .run → s.blk.sup.failures + 1 < s.blk.sup.escalation → s.blk.knifePending = false →
        t.blk.sup.mode = .hold ∧ t.blk.sup.cause = .watchdog ∧ s.blk.keepsTags t.blk) ∧
      (s.blk.sup.mode = .run → s.blk.sup.failures + 1 < s.blk.sup.escalation → s.blk.knifePending = true →
        t.blk.sup.mode = .run ∧ t.blk.sup.deferred ≠ none ∧ s.blk.keepsTags t.blk) ∧
      ((s.blk.sup.mode = .hold ∨ s.blk.sup.mode = .setup) → s.blk.sup.failures + 1 < s.blk.sup.escalation →
        t.blk.sup.mode = s.blk.sup.mode ∧ t.blk.sup.cause = s.blk.sup.cause ∧ s.blk.keepsTags t.blk))

/-- A due NOTICE is placed in the WEST own-frame queue, to the CELL address (log 30), with the pending causes in the mask, the line time and, with STATION, the ATTENTION record, once the hold-off has run out and there is room; otherwise nothing is placed (R204). A waiting Idle is placed at its port once the own-frame queue has room (R179). -/
def Obligations.NoticesAndIdlesArePlaced : Prop :=
  (∀ s : State,
    (s.blk.notices.due = true → s.blk.notices.holdOff ≤ s.blk.notices.since → s.blk.west.state = .up →
      s.blk.west.own.length < 24 →
      completes .noticePlace s
        (({ s.blk with notices := { s.blk.notices with due := false, since := 0 } }).place .west
          ⟨byte s.blk.roles.cell, 63, 4,
            be2 (s.blk.notices.pending &&& s.blk.notices.mask).toNat ++ be4 s.blk.lineTime ++
              (if Cause.station.isIn (s.blk.notices.pending &&& s.blk.notices.mask) = true then
                (match s.blk.notices.attention with
                  | some a => [byte a.role.code, a.code, byte a.count]
                  | none => [])
              else [])⟩)) ∧
    ((s.blk.notices.due = false ∨ s.blk.notices.since < s.blk.notices.holdOff ∨ s.blk.west.state ≠ .up ∨
        24 ≤ s.blk.west.own.length) →
      completes .noticePlace s s.blk)) ∧
  (∀ (s : State) (w : WaitingIdle),
    (s.blk.infeed.turnerIdle = some w → s.blk.infeed.lifterIdle = none → (s.blk.link w.port).state = .up →
      (s.blk.link w.port).own.length < 24 →
      completes .idlePlace s
        (({ s.blk with infeed := { s.blk.infeed with turnerIdle := none } }).place w.port (idleFrame w.address w.reason))) ∧
    (s.blk.infeed.lifterIdle = some w → s.blk.infeed.turnerIdle = none → (s.blk.link w.port).state = .up →
      (s.blk.link w.port).own.length < 24 →
      completes .idlePlace s
        (({ s.blk with infeed := { s.blk.infeed with lifterIdle := none } }).place w.port (idleFrame w.address w.reason))) ∧
    ((∀ x, (s.blk.infeed.turnerIdle = some x ∨ s.blk.infeed.lifterIdle = some x) → 24 ≤ (s.blk.link x.port).own.length) →
      completes .idlePlace s s.blk))

/-- The first request of the issue list that R103 lets be served is issued, an order or a pair: the first FREE tag counting upwards from the mark becomes PENDING with the order, its port and its deadline, and for a pair the next FREE one with its second; the ORDER frame is queued or being sent (R104, R105). In the same event the issuer does what its order's issue asks, the ready mark of the station is cleared, and a pressure order makes the grant BUSY (R25, R26, R42, R53, R55, R57, R61, R65, R82, R87, R129). -/
def Obligations.OrderIssueAllocatesATag : Prop :=
  (∀ (s : State) (o : Order) (rest : List IssueRequest) (i : Fin 32) (a : Nat),
    s.blk.orders.requests = ⟨o, none⟩ :: rest → ⟨o, none⟩ ∈ s.blk.wanted → s.blk.sup.mode = .run → s.blk.reaches o a →
    (s.blk.link o.role.segment).own.length < 24 →
    (∀ h, o.hydraulic = some h → s.blk.arbiter.grant = some (h, .granted) ∨ s.blk.arbiter.grant = some (h, .kept)) →
    lends s.blk.tags s.blk.orders.mark i →
    ∃ t, exec .orderIssue s = .next t ∧ s.blk.issuedOn t.blk o a i ∧
      ((s.blk.lifts.map Lift.id).Nodup → (s.blk.piles.map Pile.id).Nodup → s.blk.tellsIssuer t.blk o) ∧
      s.blk.keepsTags t.blk ∧ s.blk.keepsUnits t.blk ∧ s.blk.keepsFaults t.blk ∧ s.blk.keepsSettings t.blk ∧
      t.blk.sup = s.blk.sup) ∧
  (∀ (s : State) (o q : Order) (rest : List IssueRequest) (i j : Fin 32) (a c : Nat),
    s.blk.orders.requests = ⟨o, some q⟩ :: rest → ⟨o, some q⟩ ∈ s.blk.wanted → s.blk.sup.mode = .run →
    s.blk.reaches o a → s.blk.reaches q c →
    (o.role.segment = q.role.segment → (s.blk.link o.role.segment).own.length < 23) →
    (o.role.segment ≠ q.role.segment → (s.blk.link o.role.segment).own.length < 24 ∧ (s.blk.link q.role.segment).own.length < 24) →
    lends s.blk.tags s.blk.orders.mark i →
    lends (s.blk.tags.set i (.pending ⟨o, o.role.segment⟩ s.blk.timing[o.deadlineEntry])) i.val j →
    ∃ t, exec .orderIssue s = .next t ∧ s.blk.issuedOn t.blk o a i ∧ s.blk.issuedOn t.blk q c j ∧
      ((s.blk.lifts.map Lift.id).Nodup → (s.blk.piles.map Pile.id).Nodup →
        s.blk.tellsIssuer t.blk o ∧ s.blk.tellsIssuer t.blk q) ∧
      s.blk.keepsTags t.blk ∧ s.blk.keepsUnits t.blk ∧ s.blk.keepsFaults t.blk ∧ s.blk.keepsSettings t.blk ∧
      t.blk.sup = s.blk.sup)

/-! ### Requests of the Program Store -/

/-- Program Open refuses a slot above 15 or a header field out of range with BAD_ARG, and a READY slot in use with IN_USE; otherwise the slot becomes LOADING with the new header and an empty step list, and the ANSWER shows the state it was in (R6). -/
def Obligations.ProgramOpenStartsALoad : Prop :=
  ∀ n c o j k h : Nat, n < 256 → c < 256 → o < 65536 → j < 256 → k < 65536 → h < 65536 →
    (¬ (n ≤ 15 ∧ 1 ≤ c ∧ c ≤ 40 ∧ o ∈ [0, 90, 180, 270] ∧ 1 ≤ j ∧ j ≤ 4 ∧ k ≤ 200 ∧ 50 ≤ h ∧ h ≤ 1650) →
      carried .programOpen 1 (byte n :: byte c :: (be2 o ++ [byte j] ++ be2 k ++ be2 h)) (fun _ => True) id .badArg
        (fun _ => [])) ∧
    (∀ a : Angle, a.degrees = o → n ≤ 15 → 1 ≤ c → c ≤ 40 → 1 ≤ j → j ≤ 4 → k ≤ 200 → 50 ≤ h → h ≤ 1650 →
      carried .programOpen 1 (byte n :: byte c :: (be2 o ++ [byte j] ++ be2 k ++ be2 h))
        (fun b => ¬ ((b.slotBody n).code = 2 ∧ 0 < b.useOf n))
        (fun b => b.modSlot n fun x => { x with body := .loading ⟨c, a, j, k, h⟩ (List.replicate c none) })
        .ok (fun b => [byte n, byte (b.slotBody n).code]) ∧
      carried .programOpen 1 (byte n :: byte c :: (be2 o ++ [byte j] ++ be2 k ++ be2 h))
        (fun b => (b.slotBody n).code = 2 ∧ 0 < b.useOf n) id .inUse (fun _ => []))

/-- Step Write makes its four checks in order and changes nothing on a refusal; on acceptance the record is stored at its index, and the ANSWER counts the indices written (R7). -/
def Obligations.StepWriteChecksInOrder : Prop :=
  ∀ n i k p q m c r a : Nat, n < 256 → i < 256 → k < 256 → p < 4294967296 → q < 65536 → m < 256 → c < 256 → r < 256 → a < 65536 →
    let args := byte n :: byte i :: byte k :: (be4 p ++ be2 q ++ [byte m, byte c, byte r] ++ be2 a)
    (15 < n → carried .stepWrite 2 args (fun _ => True) id .badArg (fun _ => [])) ∧
    (n ≤ 15 → carried .stepWrite 2 args (fun b => (b.slotBody n).code ≠ 1) id .badState (fun _ => [])) ∧
    (∀ h steps, n ≤ 15 → h.stepCount ≤ i →
      carried .stepWrite 2 args (fun b => b.slotBody n = .loading h steps) id .badArg (fun _ => [])) ∧
    (∀ h steps, n ≤ 15 → i < h.stepCount → (¬ ∃ st : Step, st.writtenAs k p q m c r a) →
      carried .stepWrite 2 args (fun b => b.slotBody n = .loading h steps) id .badArg (fun _ => [])) ∧
    (∀ h steps (st : Step), n ≤ 15 → i < h.stepCount → st.writtenAs k p q m c r a →
      carried .stepWrite 2 args (fun b => b.slotBody n = .loading h steps)
        (fun b => b.modSlot n fun x => { x with body := .loading h (steps.set i (some st)) })
        .ok (fun _ => [byte n, byte i, byte ((steps.set i (some st)).countP Option.isSome)]))

/-- Program Close validates the load and makes the slot READY, or EMPTY with the first failing check (R8 to R11). -/
def Obligations.ProgramCloseValidates : Prop :=
  ∀ n d : Nat, n < 256 → d < 65536 →
    (15 < n → carried .programClose 3 (byte n :: be2 d) (fun _ => True) id .badArg (fun _ => [])) ∧
    (n ≤ 15 → carried .programClose 3 (byte n :: be2 d) (fun b => (b.slotBody n).code ≠ 1) id .badState (fun _ => [])) ∧
    (∀ h steps (i : Nat), n ≤ 15 → steps.length = h.stepCount → steps[i]? = some none →
      (∀ j < i, ∃ st, steps[j]? = some (some st)) →
      carried .programClose 3 (byte n :: be2 d) (fun b => b.slotBody n = .loading h steps)
        (fun b => b.modSlot n fun x => { x with body := .empty }) .notFound (fun _ => [byte i])) ∧
    (∀ h (ss : List Step) (i : Nat) (st : Step), n ≤ 15 → ss.length = h.stepCount → ss[i]? = some st → ¬ st.lastCutInRange →
      (∀ j < i, ∀ st', ss[j]? = some st' → st'.lastCutInRange) →
      carried .programClose 3 (byte n :: be2 d) (fun b => b.slotBody n = .loading h (ss.map some))
        (fun b => b.modSlot n fun x => { x with body := .empty }) .badArg (fun _ => [byte i])) ∧
    (∀ h (ss : List Step), n ≤ 15 → ss.length = h.stepCount → (∀ st ∈ ss, st.lastCutInRange) →
      ((crc (ss.flatMap stepRecord)).toNat ≠ d →
        carried .programClose 3 (byte n :: be2 d) (fun b => b.slotBody n = .loading h (ss.map some))
          (fun b => b.modSlot n fun x => { x with body := .empty }) .badChecksum
          (fun _ => be2 (crc (ss.flatMap stepRecord)).toNat)) ∧
      ((crc (ss.flatMap stepRecord)).toNat = d →
        carried .programClose 3 (byte n :: be2 d) (fun b => b.slotBody n = .loading h (ss.map some))
          (fun b => b.modSlot n fun x => { x with body := .ready h d ss }) .ok (fun _ => byte n :: be2 d)))

/-- Program Erase empties a LOADING slot and a READY slot not in use and answers the state it was in; it refuses a slot above 15, an EMPTY slot and a slot in use, and changes nothing then (R12). -/
def Obligations.ProgramEraseEmptiesTheSlot : Prop :=
  ∀ n : Nat, n < 256 →
    (15 < n → carried .programErase 4 [byte n] (fun _ => True) id .badArg (fun _ => [])) ∧
    (n ≤ 15 →
      carried .programErase 4 [byte n] (fun b => b.slotBody n = .empty) id .notFound (fun _ => []) ∧
      carried .programErase 4 [byte n] (fun b => (b.slotBody n).code = 1)
        (fun b => b.modSlot n fun x => { x with body := .empty }) .ok (fun _ => [1]) ∧
      carried .programErase 4 [byte n] (fun b => (b.slotBody n).code = 2 ∧ b.useOf n = 0)
        (fun b => b.modSlot n fun x => { x with body := .empty }) .ok (fun _ => [2]) ∧
      carried .programErase 4 [byte n] (fun b => (b.slotBody n).code = 2 ∧ 1 ≤ b.useOf n) id .inUse (fun _ => []))

/-- Read Program answers from the slot as it stands and changes nothing (R14 to R16). -/
def Obligations.ReadProgramShowsTheSlot : Prop :=
  ∀ n i : Nat, n < 256 → i < 256 →
    (15 < n ∨ (39 < i ∧ i ≠ 255) →
      carried .readProgram 5 [byte n, byte i] (fun _ => True) id .badArg (fun _ => [])) ∧
    (n ≤ 15 →
      carried .readProgram 5 [byte n, 255] (fun b => b.slotBody n = .empty) id .ok (fun b => [0, byte (b.useOf n)]) ∧
      (∀ h steps, carried .readProgram 5 [byte n, 255] (fun b => b.slotBody n = .loading h steps) id .ok
        (fun b => [1, byte (b.useOf n)] ++ headerBytes h ++
          [byte (steps.countP Option.isSome), byte (steps.findIdx Option.isNone)])) ∧
      (∀ h c ss, carried .readProgram 5 [byte n, 255] (fun b => b.slotBody n = .ready h c ss) id .ok
        (fun b => [2, byte (b.useOf n)] ++ headerBytes h ++ be2 c))) ∧
    (n ≤ 15 → i ≤ 39 →
      carried .readProgram 5 [byte n, byte i] (fun b => b.slotBody n = .empty) id .notFound (fun _ => []) ∧
      (∀ h c (ss : List Step) st, ss[i]? = some st →
        carried .readProgram 5 [byte n, byte i] (fun b => b.slotBody n = .ready h c ss) id .ok
          (fun _ => byte n :: byte i :: stepRecord st)) ∧
      (∀ h c (ss : List Step), ss.length ≤ i →
        carried .readProgram 5 [byte n, byte i] (fun b => b.slotBody n = .ready h c ss) id .badArg (fun _ => [])) ∧
      (∀ h (steps : List (Option Step)) st, i < h.stepCount → steps[i]? = some (some st) →
        carried .readProgram 5 [byte n, byte i] (fun b => b.slotBody n = .loading h steps) id .ok
          (fun _ => byte n :: byte i :: stepRecord st)) ∧
      (∀ h (steps : List (Option Step)), i < h.stepCount → steps[i]? = some none →
        carried .readProgram 5 [byte n, byte i] (fun b => b.slotBody n = .loading h steps) id .notFound (fun _ => [])) ∧
      (∀ h (steps : List (Option Step)), h.stepCount ≤ i →
        carried .readProgram 5 [byte n, byte i] (fun b => b.slotBody n = .loading h steps) id .badArg (fun _ => [])))

/-! ### Requests of the Lift Tracker, the infeed and the cutter -/

/-- Lift Admit makes its four checks in order and changes nothing on a refusal; on acceptance a WAITING lift with the admission values joins the back of the Line Order and the use count of its slot rises by one, in every mode (R27). -/
def Obligations.LiftAdmitAddsALift : Prop :=
  ∀ i n h : Nat, i < 256 → n < 256 → h < 65536 →
    (¬ (i ≠ 0 ∧ i ≠ 255 ∧ n ≤ 15 ∧ (h = 0 ∨ (50 ≤ h ∧ h ≤ 1650))) →
      carried .liftAdmit 6 (byte i :: byte n :: be2 h) (fun _ => True) id .badArg (fun _ => [])) ∧
    (i ≠ 0 → i ≠ 255 → n ≤ 15 → (h = 0 ∨ (50 ≤ h ∧ h ≤ 1650)) →
      carried .liftAdmit 6 (byte i :: byte n :: be2 h) (fun b => (b.slotBody n).code ≠ 2) id .badState (fun _ => []) ∧
      carried .liftAdmit 6 (byte i :: byte n :: be2 h)
        (fun b => (b.slotBody n).code = 2 ∧ ∃ l ∈ b.lifts, l.id = i) id .inUse (fun _ => []) ∧
      carried .liftAdmit 6 (byte i :: byte n :: be2 h)
        (fun b => (b.slotBody n).code = 2 ∧ (∀ l ∈ b.lifts, l.id ≠ i) ∧ 8 ≤ b.lifts.length) id .noRoom (fun _ => []) ∧
      ∀ (hd : Header) (c : Nat) (ss : List Step), carried .liftAdmit 6 (byte i :: byte n :: be2 h)
        (fun b => b.slotBody n = .ready hd c ss ∧ (∀ l ∈ b.lifts, l.id ≠ i) ∧ b.lifts.length < 8)
        (fun b => { b.modSlot n fun x => { x with useCount := x.useCount + 1 } with
          lifts := b.lifts ++ [
            { id := i, slot := n, state := .waiting, position := .none, dest := none, pair := none
              targetHeight := if h = 0 then hd.defaultHeight else h
              measured := none, orientation := none, stepIndex := 0, runRemaining := 0, uncertain := false, chop := none
              cutsMade := 0 }] })
        .ok (fun b => byte i :: (be2 (if h = 0 then hd.defaultHeight else h) ++ [byte (b.lifts.length + 1)])))

/-- Lift Cancel removes a WAITING lift and begins to clear a HELD one with no order PENDING; it refuses every other state (R41, R42). What follows in the same event is the model's finish (log 13). -/
def Obligations.LiftCancelRemovesOrClears : Prop :=
  ∀ i : Nat, i < 256 →
    (i = 0 ∨ i = 255 → carriedThen .liftCancel 7 [byte i] (fun _ => True) id .badArg (fun _ => [])) ∧
    (i ≠ 0 → i ≠ 255 →
      carriedThen .liftCancel 7 [byte i] (fun b => ∀ l ∈ b.lifts, l.id ≠ i) id .notFound (fun _ => []) ∧
      ∀ l : Lift, l.id = i →
        carriedThen .liftCancel 7 [byte i]
          (fun b => b.lift? i = some l ∧ l.state ∈ [LiftState.working, .ready, .passing, .clearing]) id .badState (fun _ => []) ∧
        carriedThen .liftCancel 7 [byte i]
          (fun b => b.lift? i = some l ∧ (∃ c, l.state = .held c) ∧ b.liftBusy i = true) id .badState (fun _ => []) ∧
        carriedThen .liftCancel 7 [byte i] (fun b => b.lift? i = some l ∧ l.state = .waiting)
          (fun b => ({ b.modSlot l.slot fun x => { x with useCount := x.useCount - 1 } with
            lifts := b.lifts.filter fun x => x.id != i }).setCause .liftDone) .ok (fun _ => [0]) ∧
        carriedThen .liftCancel 7 [byte i]
          (fun b => b.lift? i = some l ∧ (∃ c, l.state = .held c) ∧ b.liftBusy i = false)
          (fun b => b.modLift i fun x =>
            { x with state := .clearing, pair := x.dest.map fun _ => (Progress.notIssued, Progress.notIssued) })
          .ok (fun _ => [1]))

/-- Lift Resume checks arguments, id, mode, state, orders and option in their order (R37). An accepted one puts the lift back to work: SOURCE at the source of its handover, READY there but for a CUTTER in recovery (R38, R84); DEST at its destination, where at CUTTER it arrives (R38, R75); NONE where it stands, past the step after a PAUSE, READY at CUTTER with its program finished (R39, R84; log 38); REPEAT and SKIP with its uncertain cut to be made again or counted as made, and SKIP past a cut out of range (R39, R40, R92). What follows in the same event is the model's finish (log 13). -/
def Obligations.LiftResumeSettlesTheLift : Prop :=
  (∀ i o : Nat, i < 256 → o < 256 →
    (i = 0 ∨ i = 255 ∨ 5 ≤ o → carriedThen .liftResume 8 [byte i, byte o] (fun _ => True) id .badArg (fun _ => [])) ∧
    (i ≠ 0 → i ≠ 255 → o ≤ 4 →
      carriedThen .liftResume 8 [byte i, byte o] (fun b => ∀ l ∈ b.lifts, l.id ≠ i) id .notFound (fun _ => []) ∧
      carriedThen .liftResume 8 [byte i, byte o] (fun b => b.sup.mode ∈ [Mode.safe, .setup] ∧ ∃ l ∈ b.lifts, l.id = i) id
        .wrongMode (fun _ => []) ∧
      ∀ l : Lift, (∀ c, l.state ≠ .held c) → carriedThen .liftResume 8 [byte i, byte o]
        (fun b => b.sup.mode ∈ [Mode.run, .hold] ∧ b.lift? i = some l) id .badState (fun _ => []))) ∧
  (∀ (i : Nat) (l : Lift) (c : HoldCause), 1 ≤ i → i ≤ 254 → l.id = i → l.state = .held c →
    let stands : Coordinator → Prop := fun b =>
      b.sup.mode ∈ [Mode.run, .hold] ∧ b.lift? i = some l ∧ b.liftBusy i = false ∧ (b.lifts.map Lift.id).Nodup
    let accepts := fun (o : Byte) (cond : Coordinator → Prop) (effect : Coordinator → Coordinator) =>
      carriedThen .liftResume 8 [byte i, o] (fun b => stands b ∧ cond b) effect .ok (fun b => (effect b).standing i)
    (∀ o : Nat, o ≤ 4 → carriedThen .liftResume 8 [byte i, byte o]
      (fun b => b.sup.mode ∈ [Mode.run, .hold] ∧ b.lift? i = some l ∧ b.liftBusy i = true) id .badState (fun _ => [])) ∧
    (∀ o : Nat, o ≤ 4 →
      (l.dest ≠ none → o ∉ [1, 2]) → (l.dest = none → l.uncertain = true → o ∉ [3, 4]) →
      (l.dest = none → l.uncertain = false → c = .range → l.position = .cutter → o ∉ [0, 4]) →
      (l.dest = none → l.uncertain = false → (c ≠ .range ∨ l.position ≠ .cutter) → o ≠ 0) →
      carriedThen .liftResume 8 [byte i, byte o] stands id .badArg (fun _ => [])) ∧
    (∀ d, l.dest = some d →
      accepts 1 (fun b => l.source ≠ .cutter ∨ b.cutter.recovery = .clear)
        (fun b => b.withLift { l with position := l.source, dest := none, pair := none, state := .ready }) ∧
      accepts 1 (fun b => l.source = .cutter ∧ b.cutter.recovery ≠ .clear)
        (fun b => b.withLift { l with position := l.source, dest := none, pair := none, state := .working }) ∧
      accepts 2 (fun _ => True) (fun b => b.handedOver { l with
        position := d
        orientation := if d = .cutter ∧ l.position ≠ .cutter then some (b.entryOf l) else l.orientation })) ∧
    (l.dest = none → l.uncertain = false →
      (c = .pause → accepts 0 (fun _ => True) (fun b => b.stepDone { l with state := .working })) ∧
      (c ≠ .pause →
        accepts 0 (fun b => l.position ≠ .cutter ∨ b.cutter.recovery ≠ .clear ∨ l.stepIndex < b.stepCountOf l)
          (fun b => b.withLift { l with state := .working }) ∧
        accepts 0 (fun b => l.position = .cutter ∧ b.cutter.recovery = .clear ∧ b.stepCountOf l ≤ l.stepIndex)
          (fun b => b.withLift { l with state := .ready })) ∧
      (c = .range → l.position = .cutter →
        accepts 4 (fun b => ∃ p q m k r, b.currentStep l = some (.strip p q m k r))
          (fun b => b.cutDone { l with state := .working, runRemaining := l.runRemaining - 1 }) ∧
        accepts 4 (fun b => ∀ p q m k r, b.currentStep l ≠ some (.strip p q m k r))
          (fun b => b.cutDone { l with state := .working }))) ∧
    (l.dest = none → l.uncertain = true →
      accepts 3 (fun b => ∃ p q m k r, b.currentStep l = some (.strip p q m k r))
        (fun b => { b.withLift { l with state := .working, uncertain := false, runRemaining := l.runRemaining + 1 } with
          cutter := { b.cutter with stage := .none } }) ∧
      accepts 3 (fun b => ∀ p q m k r, b.currentStep l ≠ some (.strip p q m k r))
        (fun b => { b.withLift { l with state := .working, uncertain := false } with
          cutter := { b.cutter with stage := .none } }) ∧
      accepts 4 (fun _ => True) (fun b => b.cutDone { l with state := .working, uncertain := false })))

/-- Pile Declare adds a pile at the back of the Pile Order or refuses with the first failing check (R51). What follows in the same event is the model's finish (log 13). -/
def Obligations.PileDeclareAddsAPile : Prop :=
  ∀ i f g : Nat, i < 256 → f < 256 → g < 256 →
    (¬ (i ≠ 0 ∧ i ≠ 255 ∧ f ≤ 1 ∧ g ≠ 0) →
      carriedThen .pileDeclare 11 [byte i, byte f, byte g] (fun _ => True) id .badArg (fun _ => [])) ∧
    (i ≠ 0 → i ≠ 255 → f ≤ 1 → g ≠ 0 →
      carriedThen .pileDeclare 11 [byte i, byte f, byte g] (fun b => ∃ p ∈ b.piles, p.id = i) id .inUse (fun _ => []) ∧
      carriedThen .pileDeclare 11 [byte i, byte f, byte g]
        (fun b => (∀ p ∈ b.piles, p.id ≠ i) ∧ 3 ≤ b.piles.length) id .noRoom (fun _ => []) ∧
      carriedThen .pileDeclare 11 [byte i, byte f, byte g]
        (fun b => (∀ p ∈ b.piles, p.id ≠ i) ∧ b.piles.length < 3)
        (fun b => { b with
          piles := b.piles ++ [
            { id := i, state := .declared, position := .none, flip := f == 1, declared := g, remaining := g, taken := 0
              heightLeft := none, move := none, clear := none }] })
        .ok (fun b => [byte i, byte (b.piles.length + 1)]))

/-- Chop Run stores a chop for a step still to come and shortens the run in hand, or refuses with the first failing check (R96, R97). -/
def Obligations.ChopRunShortensTheRun : Prop :=
  ∀ i k c : Nat, i < 256 → k < 256 → c < 256 →
    (¬ (i ≠ 0 ∧ i ≠ 255 ∧ k ≤ 39 ∧ c ≤ 31) →
      carried .chopRun 13 [byte i, byte k, byte c] (fun _ => True) id .badArg (fun _ => [])) ∧
    (i ≠ 0 → i ≠ 255 → k ≤ 39 → c ≤ 31 →
      carried .chopRun 13 [byte i, byte k, byte c] (fun b => ∀ l ∈ b.lifts, l.id ≠ i) id .notFound (fun _ => []) ∧
      ∀ l : Lift, l.id = i →
        carried .chopRun 13 [byte i, byte k, byte c]
          (fun b => b.lift? i = some l ∧ (b.stepCountOf l ≤ k ∨ ∀ st, (b.stepsOf l)[k]? = some st → st.kindCode ≠ 2))
          id .badArg (fun _ => []) ∧
        carried .chopRun 13 [byte i, byte k, byte c]
          (fun b => b.lift? i = some l ∧ k < b.stepCountOf l ∧ (∃ st, (b.stepsOf l)[k]? = some st ∧ st.kindCode = 2) ∧
            (l.position = .outfeed ∨ (l.position = .cutter ∧ l.dest ≠ some .cutter ∧ k < l.stepIndex)))
          id .tooLate (fun _ => []) ∧
        carried .chopRun 13 [byte i, byte k, byte c]
          (fun b => b.lift? i = some l ∧ k < b.stepCountOf l ∧ (∃ st, (b.stepsOf l)[k]? = some st ∧ st.kindCode = 2) ∧
            l.position = .cutter ∧ l.dest ≠ some .cutter ∧ l.stepIndex = k)
          (fun b => b.modLift i fun x => { x with runRemaining := min l.runRemaining c })
          .ok (fun _ => [1, byte (min l.runRemaining c)]) ∧
        carried .chopRun 13 [byte i, byte k, byte c]
          (fun b => b.lift? i = some l ∧ k < b.stepCountOf l ∧ (∃ st, (b.stepsOf l)[k]? = some st ∧ st.kindCode = 2) ∧
            (l.position ∈ [Position.none, .lifter, .jogger] ∨
              (l.position = .cutter ∧ (l.dest = some .cutter ∨ l.stepIndex < k))))
          (fun b => b.modLift i fun x => { x with chop := some (k, c) }) .ok (fun _ => [0, 0]))

/-! ### Requests of the Order Table and the Arbiter -/

/-- Load Timing sets one entry within its range or every default, and Read Timing shows up to eight entries (R122, R123). The event of a Load Timing ends with the model's finish, which tests what the new entry makes due (logs 13, 16). -/
def Obligations.TimingTableIsLoadedAndRead : Prop :=
  ∀ e v : Nat, e < 256 → v < 4294967296 →
    ((20 < e ∧ e ≠ 255) ∨ (e ≤ 8 ∧ 5000 < v) ∨ (9 ≤ e ∧ e ≤ 19 ∧ ¬ (100 ≤ v ∧ v ≤ 120000)) ∨
        (e = 20 ∧ ¬ (100 ≤ v ∧ v ≤ 10000)) →
      carriedThen .loadTiming 14 (byte e :: be4 v) (fun _ => True) id .badArg (fun _ => [])) ∧
    (∀ h : e < 21, ((e ≤ 8 ∧ v ≤ 5000) ∨ (9 ≤ e ∧ e ≤ 19 ∧ 100 ≤ v ∧ v ≤ 120000) ∨ (e = 20 ∧ 100 ≤ v ∧ v ≤ 10000)) →
      carriedThen .loadTiming 14 (byte e :: be4 v) (fun _ => True) (fun b => { b with timing := b.timing.set e v h })
        .ok (fun b => byte e :: (be4 b.timing[e] ++ be4 v))) ∧
    carriedThen .loadTiming 14 (255 :: be4 v) (fun _ => True) (fun b => { b with timing := Config.timingDefaults })
      .ok (fun _ => []) ∧
    (20 < e → carried .readTiming 15 [byte e] (fun _ => True) id .badArg (fun _ => [])) ∧
    (e ≤ 20 → carried .readTiming 15 [byte e] (fun _ => True) id .ok
      (fun b => byte e :: ((b.timing.toList.drop e).take 8).flatMap be4))

/-- Read Fault Record answers the First-Fault Record, the two counts and the line time and changes nothing; Clear Fault Record answers the record and the fault count as they stand, then empties the one and zeroes the other, and leaves the stale count (R118, R119). The subject byte of a full record without a subject is 0 by the model's choice (log 41). -/
def Obligations.FaultRecordIsReadAndCleared : Prop :=
  carried .readFaultRecord 17 [] (fun b => b.orders.firstFault = none) id .ok
    (fun b => List.replicate 11 0 ++ [byte b.orders.faultCount] ++ be2 b.orders.staleCount ++ be4 b.lineTime) ∧
  carried .clearFaultRecord 18 [] (fun b => b.orders.firstFault = none)
    (fun b => { b with orders := { b.orders with firstFault := none, faultCount := 0 } }) .ok
    (fun b => List.replicate 11 0 ++ [byte b.orders.faultCount] ++ be4 b.lineTime) ∧
  ∀ f : FaultRecord,
    carried .readFaultRecord 17 [] (fun b => b.orders.firstFault = some f) id .ok
      (fun b => [1, byte f.tag, byte f.order.role.code, byte f.order.kind.code, byte f.fault.code,
        if f.order.subject = none then 0 else 1, byte (f.order.subject.getD 0)] ++ be4 f.lineTime ++
        [byte b.orders.faultCount] ++ be2 b.orders.staleCount ++ be4 b.lineTime) ∧
    carried .clearFaultRecord 18 [] (fun b => b.orders.firstFault = some f)
      (fun b => { b with orders := { b.orders with firstFault := none, faultCount := 0 } }) .ok
      (fun b => [1, byte f.tag, byte f.order.role.code, byte f.order.kind.code, byte f.fault.code,
        if f.order.subject = none then 0 else 1, byte (f.order.subject.getD 0)] ++ be4 f.lineTime ++
        [byte b.orders.faultCount] ++ be4 b.lineTime)

/-- The reads are answered OK in every mode, or BAD_ARG for an id, a selector or a part that names nothing that can exist, and NOT_FOUND for a lift that is not live, and change nothing but the two queues (R44, R45, R52, R120, R200, R201). The records are spelled field by field, with the codes of their fields (R208; the words layout and fieldCodes). The subject byte of an order without a subject is 0 by the model's choice (log 41). -/
def Obligations.ReadsChangeNothing : Prop :=
  carried .readIdentity 31 [] (fun _ => True) id .ok
    (fun b => [0x42, 0x52, 0x45, 0x5A, 0x4B, 0x41, 0x4C, 0x55, 0x4C, 0x42, 0x52, 0x41, 0x4D, 2, 128, 1, 16, 40, 8, 3, 32, 4,
      24, 16] ++ be4 b.lineTime) ∧
  carried .readLine 10 [] (fun _ => True) id .ok
    (fun b => byte b.lifts.length :: (b.lifts.flatMap fun l => [byte l.id, byte l.state.code, byte l.position.code]) ++
      ([Position.lifter, .jogger, .cutter, .outfeed].flatMap fun p =>
        match b.posEntry p with | .free => [0, 0] | .standing i => [1, byte i] | .reserved i => [2, byte i]) ++
      [bit b.tracker.jogger, bit b.tracker.rotator, bit b.tracker.outfeed]) ∧
  carried .readPiles 12 [] (fun _ => True) id .ok
    (fun b => b.piles.flatMap Pile.layout ++ [bit b.infeed.turnerMark, bit b.infeed.lifterCall, bit b.infeed.turnerCall]) ∧
  carried .readOrders 16 [255] (fun _ => True) id .ok
    (fun b => packTwoBits (b.tags.toList.map Tag.code) ++
      [byte b.pendingTags, byte b.quarantinedTags, byte b.orders.mark, byte b.orders.requests.length] ++
      be2 b.orders.staleCount ++ [byte b.orders.faultCount]) ∧
  (∀ i : Fin 32, carried .readOrders 16 [byte i.val] (fun b => b.tags[i] = .free) id .ok (fun _ => [byte i.val, 0])) ∧
  (∀ (i : Fin 32) r d, carried .readOrders 16 [byte i.val] (fun b => b.tags[i] = .pending r d) id .ok
    (fun _ => [byte i.val, 1] ++ r.layout ++ be4 d ++ [0, 0, 0])) ∧
  (∀ (i : Fin 32) r c q, carried .readOrders 16 [byte i.val] (fun b => b.tags[i] = .quarantined r c q) id .ok
    (fun _ => [byte i.val, 2] ++ r.layout ++ [0, 0, 0, 0, byte c.code] ++ be2 q)) ∧
  carried .readStatus 32 [0] (fun _ => True) id .ok Coordinator.lineLayout ∧
  carried .readStatus 32 [1] (fun _ => True) id .ok (fun b => b.west.layout) ∧
  carried .readStatus 32 [2] (fun _ => True) id .ok (fun b => b.east.layout) ∧
  (∀ n : Nat, 3 ≤ n → n < 256 → carried .readStatus 32 [byte n] (fun _ => True) id .badArg (fun _ => [])) ∧
  (∀ n : Nat, 32 ≤ n → n < 255 → carried .readOrders 16 [byte n] (fun _ => True) id .badArg (fun _ => [])) ∧
  (∀ n ∈ [0, 255], carried .readLift 9 [byte n] (fun _ => True) id .badArg (fun _ => [])) ∧
  (∀ i : Nat, 1 ≤ i → i ≤ 254 →
    carried .readLift 9 [byte i] (fun b => ∀ l ∈ b.lifts, l.id ≠ i) id .notFound (fun _ => []) ∧
    ∀ l : Lift, l.id = i → carried .readLift 9 [byte i] (fun b => b.lift? i = some l) id .ok
      (fun b => l.layout (b.lifts.findIdx fun x => x.id == i))) ∧
  fieldCodes

/-- Set Pressure takes each setting that is not KEEP and answers the Arbiter's state; a holder keeps its grant, and with none a decision is made (R139, R128). What follows in the same event is the model's finish (log 13). -/
def Obligations.SetPressureTakesItsSettings : Prop :=
  ∀ (a b c h k : Byte),
    (∀ (order : List Hydraulic) (ho : Bool) (cap : Nat),
      ∀ s number src rest (t : Coordinator), s.blk.asks 19 number [a, b, c, h, k] src rest →
        ((a = 255 ∧ order = s.blk.arbiter.priority) ∨
          ([a, b, c] = order.map (fun x => byte x.role.code) ∧ List.Perm order [.press, .turner, .lifter])) →
        ((h = 255 ∧ ho = s.blk.arbiter.holdOver) ∨ h = (if ho then 0 else 1)) →
        ((k = 255 ∧ cap = s.blk.arbiter.cap) ∨ (k = byte cap ∧ 1 ≤ cap ∧ cap ≤ 32)) →
        t = { s.blk.behind rest with arbiter := { s.blk.arbiter with priority := order, holdOver := ho, cap := cap } } →
        (s.blk.arbiter.grant ≠ none →
          completes .setPressure s (t.answering src 19 number .ok (arbiterBytes t)).finish) ∧
        (s.blk.arbiter.grant = none →
          completes .setPressure s (t.grantDecision.answering src 19 number .ok (arbiterBytes t.grantDecision)).finish)) ∧
    (k ≠ 255 → (k = 0 ∨ 32 < k.toNat) →
      carriedThen .setPressure 19 [a, b, c, h, k] (fun _ => True) id .badArg (fun _ => [])) ∧
    (h ≠ 255 → 1 < h.toNat →
      carriedThen .setPressure 19 [a, b, c, h, k] (fun _ => True) id .badArg (fun _ => [])) ∧
    (a ≠ 255 → (a = b ∨ b = c ∨ a = c ∨ a.toNat ∉ [1, 2, 5] ∨ b.toNat ∉ [1, 2, 5] ∨ c.toNat ∉ [1, 2, 5]) →
      carriedThen .setPressure 19 [a, b, c, h, k] (fun _ => True) id .badArg (fun _ => []))

/-! ### Requests of the Line Supervisor -/

/-- Refresh is refused with the watchdog stopped, a failure in the closed half (BAD_STATE) or with a wrong code (BAD_ARG), and otherwise sets the count to 0 and restarts the period; with check ROLLING the code changes to another value (R157), a free one (log 4), and every answer of a running watchdog carries the count, the code and the period as they now stand (R208). Set Supervision is accepted in SAFE alone, takes each setting that is not KEEP and sets the failure count to 0 (R159). What follows in the same event is the model's finish (log 13). -/
def Obligations.WatchdogRequestsFollowTheirChecks : Prop :=
  (∀ (s : State) (number : Byte) (src : Nat) (rest : List Frame) (c : Nat), c < 65536 → s.blk.asks 20 number (be2 c) src rest →
    let newCodeOf := fun (x : BitVec 12) (n : Nat) =>
      (s.blk.sup.check = .plain → x = s.blk.sup.refreshCode ∧ n = s.blk.draws) ∧
      (s.blk.sup.check = .rolling → x ≠ s.blk.sup.refreshCode)
    (s.blk.sup.running = false → completes .refresh s ((s.blk.behind rest).answering src 20 number .wrongMode []).finish) ∧
    (s.blk.sup.running = true →
      (s.blk.sup.style = .timeout ∨ s.blk.sup.periodMs ≤ 2 * s.blk.sup.elapsed) →
      (s.blk.sup.check = .plain ∨ c + s.blk.sup.refreshCode.toNat = 4095) →
      (∃ (x : BitVec 12) (n : Nat), newCodeOf x n ∧ completes .refresh s
        (({ s.blk.behind rest with sup := { s.blk.sup with failures := 0, elapsed := 0, refreshCode := x }, draws := n }).answering
          src 20 number .ok (0 :: be2 x.toNat ++ [byte s.blk.sup.period.val])).finish) ∧
      ∃ t, exec .refresh s = .next t ∧ t.blk.sup.failures = 0 ∧ t.blk.sup.elapsed = 0 ∧ t.blk.sup.mode = s.blk.sup.mode ∧
        (s.blk.sup.check = .plain → t.blk.sup.refreshCode = s.blk.sup.refreshCode) ∧
        (s.blk.sup.check = .rolling → t.blk.sup.refreshCode ≠ s.blk.sup.refreshCode) ∧
        s.blk.keepsTags t.blk ∧ s.blk.keepsUnits t.blk ∧ t.blk.agent = rest) ∧
    (s.blk.sup.running = true →
      ((s.blk.sup.style = .window ∧ 2 * s.blk.sup.elapsed < s.blk.sup.periodMs) ∨
        (s.blk.sup.check = .rolling ∧ c + s.blk.sup.refreshCode.toNat ≠ 4095)) →
      (∃ (x : BitVec 12) (n : Nat), newCodeOf x n ∧
        let u := ({ s.blk.behind rest with sup := { s.blk.sup with refreshCode := x }, draws := n }).watchdogFailure
        completes .refresh s (u.answering src 20 number
          (if s.blk.sup.style = .window ∧ 2 * s.blk.sup.elapsed < s.blk.sup.periodMs then .badState else .badArg)
          (byte (min (s.blk.sup.failures + 1) s.blk.sup.escalation) :: be2 x.toNat ++ [byte s.blk.sup.period.val])).finish) ∧
      ∃ t, exec .refresh s = .next t ∧ t.blk.sup.failures = min (s.blk.sup.failures + 1) s.blk.sup.escalation ∧
        t.blk.sup.elapsed = 0 ∧ t.blk.shows .supervision ∧
        (s.blk.sup.check = .plain → t.blk.sup.refreshCode = s.blk.sup.refreshCode) ∧
        (s.blk.sup.check = .rolling → t.blk.sup.refreshCode ≠ s.blk.sup.refreshCode) ∧
        (s.blk.sup.mode = .run → s.blk.sup.failures + 1 < s.blk.sup.escalation → s.blk.knifePending = false →
          t.blk.sup.mode = .hold ∧ t.blk.sup.cause = .watchdog) ∧
        (s.blk.sup.escalation ≤ s.blk.sup.failures + 1 → t.blk.sup.mode = .safe))) ∧
  (∀ p y c e : Byte,
    carried .setSupervision 21 [p, y, c, e] (fun b => b.sup.mode ≠ .safe) id .wrongMode (fun _ => []) ∧
    ((p ≠ 255 ∧ 7 < p.toNat) ∨ (y ≠ 255 ∧ 1 < y.toNat) ∨ (c ≠ 255 ∧ 1 < c.toNat) ∨ (e ≠ 255 ∧ e.toNat ∉ [1, 2, 4, 8]) →
      carried .setSupervision 21 [p, y, c, e] (fun b => b.sup.mode = .safe) id .badArg (fun _ => [])) ∧
    (∀ (period : Fin 8) (style : WatchdogStyle) (check : WatchdogCheck) (n : Nat),
      carried .setSupervision 21 [p, y, c, e]
        (fun b => b.sup.mode = .safe ∧
          (p = byte period.val ∨ (p = 255 ∧ period = b.sup.period)) ∧ (y = byte style.code ∨ (y = 255 ∧ style = b.sup.style)) ∧
          (c = byte check.code ∨ (c = 255 ∧ check = b.sup.check)) ∧
          ((n ∈ [1, 2, 4, 8] ∧ e = byte n) ∨ (e = 255 ∧ n = b.sup.escalation)))
        (fun b => { b with sup := { b.sup with
          period := period, style := style, check := check, escalation := n, failures := 0 } })
        .ok (fun _ => [byte period.val, byte style.code, byte check.code, byte n])))

/-- Read Challenge draws a challenge 0–4,095 different from the last one returned, stores it as both and answers it, in every mode (R160). -/
def Obligations.ReadChallengeDrawsANewOne : Prop :=
  ∀ (s : State) (number : Byte) (src : Nat) (rest : List Frame), s.blk.asks 22 number [] src rest →
    ∃ (c : BitVec 12) (n : Nat), s.blk.sup.lastChallenge ≠ some c ∧ c.toNat ≤ 4095 ∧
      completes .readChallenge s
        (({ s.blk.behind rest with
            sup := { s.blk.sup with challenge := some c, lastChallenge := some c }
            draws := n }).answering src 22 number .ok (be2 c.toNat))

/-- A secured request without the right answer to a present challenge is refused with BAD_CHALLENGE: it consumes the challenge, is a watchdog failure, and nothing of the request is done (R161, R158); what a failure does is said here and in the statement on the watchdog's expiry. What follows in the same event is the model's finish (log 13). -/
def Obligations.WrongChallengeAnswerIsAFailure : Prop :=
  ∀ (s : State) (number : Byte) (src : Nat) (rest : List Frame) (c : Nat), c < 65536 →
    (∀ x, s.blk.sup.challenge = some x → c + x.toNat ≠ 4095) →
    ∀ cmd ∈ [(Instr.releaseSafe, 23), (Instr.enterSetup, 24), (Instr.lineReset, 35)],
      s.blk.asks cmd.2 number (be2 c) src rest →
      completes cmd.1 s ((({ s.blk.behind rest with sup := { s.blk.sup with challenge := none } }).watchdogFailure).answering
        src cmd.2 number .badChallenge []).finish ∧
      ∃ t, exec cmd.1 s = .next t ∧ t.blk.sup.challenge = none ∧ t.blk.sup.lastChallenge = s.blk.sup.lastChallenge ∧
        t.blk.sup.failures = min (s.blk.sup.failures + 1) s.blk.sup.escalation ∧ t.blk.shows .supervision ∧
        (s.blk.sup.mode = .safe → t.blk.sup.mode = .safe ∧ t.blk.sup.cause = s.blk.sup.cause) ∧
        (s.blk.sup.mode ≠ .safe → s.blk.sup.escalation ≤ s.blk.sup.failures + 1 → s.blk.enteredSafe t.blk .watchdog) ∧
        (s.blk.sup.mode = .run → s.blk.sup.failures + 1 < s.blk.sup.escalation → s.blk.knifePending = false →
          t.blk.sup.mode = .hold ∧ t.blk.sup.cause = .watchdog) ∧
        ((s.blk.sup.mode = .hold ∨ s.blk.sup.mode = .setup) → s.blk.sup.failures + 1 < s.blk.sup.escalation →
          t.blk.sup.mode = s.blk.sup.mode) ∧
        t.blk.lifts.map Lift.id = s.blk.lifts.map Lift.id ∧ t.blk.piles.map Pile.identity = s.blk.piles.map Pile.identity ∧
        s.blk.keepsFaults t.blk ∧ s.blk.keepsSettings t.blk

/-- Release Safe with the right answer leaves SAFE for HOLD with ESTOP and CURTAIN clear and no tag in use, and starts the watchdog (R150, R156). Enter Setup takes HOLD to SETUP with no tag PENDING; Leave Setup takes SETUP to HOLD, with every cutter unit UNKNOWN and no MANUAL frame left in a queue (R162, R163, R175). Each is refused with its first failing check. What follows in the same event is the model's finish (log 13). -/
def Obligations.ReleaseSafeAndSetupChangeTheMode : Prop :=
  (∀ x : BitVec 12,
    carriedThen .releaseSafe 23 (be2 (4095 - x.toNat)) (fun b => b.sup.challenge = some x ∧ b.sup.mode ≠ .safe)
      (fun b => { b with sup := { b.sup with challenge := none } }) .wrongMode (fun _ => []) ∧
    carriedThen .releaseSafe 23 (be2 (4095 - x.toNat))
      (fun b => b.sup.challenge = some x ∧ b.sup.mode = .safe ∧ (b.inputs.estop = true ∨ b.inputs.curtain = true))
      (fun b => { b with sup := { b.sup with challenge := none } }) .badState
      (fun b => [0, byte ((if b.inputs.curtain then 1 else 0) + (if b.inputs.estop then 4 else 0))]) ∧
    carriedThen .releaseSafe 23 (be2 (4095 - x.toNat))
      (fun b => b.sup.challenge = some x ∧ b.sup.mode = .safe ∧ b.inputs.estop = false ∧ b.inputs.curtain = false ∧
        ∃ t : Fin 32, b.tags[t] ≠ .free)
      (fun b => { b with sup := { b.sup with challenge := none } }) .badState (fun b => [1, byte b.quarantinedTags]) ∧
    carriedThen .releaseSafe 23 (be2 (4095 - x.toNat))
      (fun b => b.sup.challenge = some x ∧ b.sup.mode = .safe ∧ b.inputs.estop = false ∧ b.inputs.curtain = false ∧
        ∀ t : Fin 32, b.tags[t] = .free)
      (fun b => ({ b with sup := { b.sup with
          challenge := none, mode := .hold, cause := .request, safeOutput := false, failures := 0, running := true
          elapsed := 0 } }).setCause .modeChange)
      .ok (fun b => 1 :: be2 b.sup.refreshCode.toNat)) ∧
  ((∀ x : BitVec 12,
    carriedThen .enterSetup 24 (be2 (4095 - x.toNat)) (fun b => b.sup.challenge = some x ∧ b.sup.mode ≠ .hold)
      (fun b => { b with sup := { b.sup with challenge := none } }) .wrongMode (fun _ => []) ∧
    carriedThen .enterSetup 24 (be2 (4095 - x.toNat))
      (fun b => b.sup.challenge = some x ∧ b.sup.mode = .hold ∧ ∃ o, b.hasPending o)
      (fun b => { b with sup := { b.sup with challenge := none } }) .badState (fun _ => []) ∧
    carriedThen .enterSetup 24 (be2 (4095 - x.toNat))
      (fun b => b.sup.challenge = some x ∧ b.sup.mode = .hold ∧ ¬ ∃ o, b.hasPending o)
      (fun b => ({ b with sup := { b.sup with challenge := none, mode := .setup, cause := .request } }).setCause .modeChange)
      .ok (fun _ => [])) ∧
  carriedThen .leaveSetup 25 [] (fun b => b.sup.mode ≠ .setup) id .wrongMode (fun _ => []) ∧
  ∀ s number src rest, s.blk.asks 25 number [] src rest → s.blk.sup.mode = .setup →
    ∃ t, exec .leaveSetup s = .next t ∧ t.blk.sup = { s.blk.sup with mode := .hold, cause := .request } ∧
      t.blk.shows .modeChange ∧ t.blk.cutter.clamp = .unknown ∧ t.blk.cutter.knife = .unknown ∧
      t.blk.cutter.gauge = .unknown ∧ t.blk.cutter.rotator = .unknown ∧ t.blk.cutter.recovery = .clamp ∧
      (∀ p, ∀ f ∈ (t.blk.link p).forward, f.frame.kind ≠ kindManual) ∧
      (∀ p, ∀ f ∈ (s.blk.link p).forward, f.frame.kind ≠ kindManual →
        f ∈ (t.blk.link p).forward ∨ (t.blk.link p).sending = some ⟨f.frame, false⟩) ∧
      s.blk.keepsTags t.blk ∧ s.blk.keepsFaults t.blk ∧ t.blk.roles = s.blk.roles ∧ t.blk.routes = s.blk.routes)

/-- Hold Line enters HOLD from RUN, or is deferred while a Knife Cut is PENDING; it changes nothing in HOLD and is refused in SAFE and SETUP (R164). Resume Line takes HOLD to RUN with the guards clear, both ports UP and all roles assigned, and refuses with the first failing check (R165). What follows in the same event is the model's finish (log 13). -/
def Obligations.HoldAndResumeFollowTheMode : Prop :=
  (carriedThen .holdLine 26 [] (fun b => b.sup.mode = .run ∧ b.knifePending = false)
    (fun b => ({ b with sup := { b.sup with mode := .hold, cause := .request } }).setCause .modeChange)
    .ok (fun b => [1, byte (deferredCode b.sup.deferred)]) ∧
  carriedThen .holdLine 26 [] (fun b => b.sup.mode = .run ∧ b.knifePending = true ∧ b.sup.deferred = none)
    (fun b => { b with sup := { b.sup with deferred := some .request } }) .ok (fun _ => [0, 1]) ∧
  (∀ c, carriedThen .holdLine 26 [] (fun b => b.sup.mode = .run ∧ b.knifePending = true ∧ b.sup.deferred = some c) id .ok
    (fun _ => [0, byte c.code])) ∧
  carriedThen .holdLine 26 [] (fun b => b.sup.mode = .hold) id .ok (fun b => [1, byte (deferredCode b.sup.deferred)]) ∧
  carriedThen .holdLine 26 [] (fun b => b.sup.mode = .safe ∨ b.sup.mode = .setup) id .wrongMode (fun _ => [])) ∧
  (carriedThen .resumeLine 27 [] (fun b => b.sup.mode ≠ .hold) id .wrongMode (fun _ => []) ∧
  carriedThen .resumeLine 27 []
    (fun b => b.sup.mode = .hold ∧ (b.inputs.estop = true ∨ b.inputs.curtain = true ∨ b.inputs.door = true)) id .badState
    (fun b => [0, byte ((if b.inputs.curtain then 1 else 0) + (if b.inputs.door then 2 else 0) +
      (if b.inputs.estop then 4 else 0))]) ∧
  carriedThen .resumeLine 27 []
    (fun b => b.sup.mode = .hold ∧ b.inputs.estop = false ∧ b.inputs.curtain = false ∧ b.inputs.door = false ∧
      b.east.state ≠ .up) id .badState (fun _ => [1, 2]) ∧
  carriedThen .resumeLine 27 []
    (fun b => b.sup.mode = .hold ∧ b.inputs.estop = false ∧ b.inputs.curtain = false ∧ b.inputs.door = false ∧
      b.east.state = .up ∧ ∃ r, b.roles.get r = none) id .badState
    (fun b => [2, bitsByte (Role.all.map fun r => (b.roles.get r).isNone)]) ∧
  carriedThen .resumeLine 27 []
    (fun b => b.sup.mode = .hold ∧ b.inputs.estop = false ∧ b.inputs.curtain = false ∧ b.inputs.door = false ∧
      b.east.state = .up ∧ ∀ r, b.roles.get r ≠ none)
    (fun b => ({ b with sup := { b.sup with mode := .run, cause := .resume } }).setCause .modeChange) .ok (fun _ => []))

/-- Every step keeps the law of the line, where no two lifts have one id and no station two PENDING orders: each position is held by at most one lift (R24), no lift stands behind one that follows it in the Line Order, with the WAITING ones behind all (R22), and every PENDING order about a lift fits its record (R20, R21, R74). The law holds at reset. -/
def Obligations.StepKeepsLineLaw : Prop :=
  State.reset.blk.lineLaw ∧
  ∀ s t : State, s.blk.useLaw → s.blk.stationLaw → s.blk.lineLaw → step s = .next t → t.blk.lineLaw

/-- Line Reset with the right answer, in any mode but RUN and with no tag in use, removes every lift and pile, puts the cutter in doubt and keeps what has been loaded (R202, R19, R47, R69, R100, R125, R141, R167). What follows in the same event is the model's finish (log 13). -/
def Obligations.LineResetClearsTheWork : Prop :=
  ∀ x : BitVec 12,
    carriedThen .lineReset 35 (be2 (4095 - x.toNat)) (fun b => b.sup.challenge = some x ∧ b.sup.mode = .run)
      (fun b => { b with sup := { b.sup with challenge := none } }) .wrongMode (fun _ => []) ∧
    carriedThen .lineReset 35 (be2 (4095 - x.toNat))
      (fun b => b.sup.challenge = some x ∧ b.sup.mode ≠ .run ∧ ∃ t : Fin 32, b.tags[t] ≠ .free)
      (fun b => { b with sup := { b.sup with challenge := none } }) .badState (fun _ => []) ∧
    carriedThen .lineReset 35 (be2 (4095 - x.toNat))
      (fun b => b.sup.challenge = some x ∧ b.sup.mode ≠ .run ∧ ∀ t : Fin 32, b.tags[t] = .free)
      (fun b => { b with
        sup := { b.sup with challenge := none }
        lifts := []
        piles := []
        slots := b.slots.map fun (y : Slot) => { y with useCount := 0 }
        orders := { b.orders with requests := [] }
        cutter := { b.cutter with
          clamp := .unknown, knife := .unknown, gauge := .unknown, rotator := .unknown, recovery := .clamp, stage := .none
          cutNumber := 0, holdOver := 0 }
        arbiter := { b.arbiter with grant := none, flags := ⟨false, false, false⟩, yield := false } })
      .ok (fun b => [byte b.lifts.length, byte b.piles.length])

/-! ### Requests of the Router, the ports and the Notice Unit -/

/-- Set Role and Set Forward take their setting when every check passes, change nothing with KEEP, and refuse with the first check that fails, and every answer shows the table (R177, R178; the entry shown for an address above 63: log 6). -/
def Obligations.RolesAndRoutesAreSet : Prop :=
  (∀ n m : Nat, n < 256 → m < 256 →
    (8 ≤ n ∨ (63 ≤ m ∧ m ≤ 254) →
      carried .setRole 28 [byte n, byte m] (fun _ => True) id .badArg (fun b => roleBytes b.roles)) ∧
    (n = 0 ∨ 63 ≤ n ∨ (3 ≤ m ∧ m ≤ 254) →
      carried .setForward 29 [byte n, byte m] (fun _ => True) id .badArg (fun b => forwardBytes b b.routes (byte n))) ∧
    (1 ≤ n → n ≤ 62 →
      carried .setForward 29 [byte n, 255] (fun _ => True) id .ok (fun b => forwardBytes b b.routes (byte n)))) ∧
  ∀ (r : Role) (a : Nat) (w : Route), 1 ≤ a → a ≤ 62 →
    carried .setRole 28 [byte r.code, byte a] (fun b => b.sup.mode = .run) id .wrongMode (fun b => roleBytes b.roles) ∧
    carried .setRole 28 [byte r.code, byte a] (fun b => b.sup.mode ≠ .run ∧ b.roleInUse r = true) id .badState
      (fun b => roleBytes b.roles) ∧
    carried .setRole 28 [byte r.code, byte a]
      (fun b => b.sup.mode ≠ .run ∧ b.roleInUse r = false ∧ ∃ q, q ≠ r ∧ b.roles.get q = some a) id .inUse
      (fun b => roleBytes b.roles) ∧
    carried .setRole 28 [byte r.code, byte a]
      (fun b => b.sup.mode ≠ .run ∧ b.roleInUse r = false ∧ ∀ q, q ≠ r → b.roles.get q ≠ some a)
      (fun b => { b with roles := b.roles.assign r (some a) }) .ok (fun b => roleBytes (b.roles.assign r (some a))) ∧
    carried .setRole 28 [byte r.code, 255] (fun _ => True) id .ok (fun b => roleBytes b.roles) ∧
    carried .setRole 28 [0, 0] (fun _ => True) id .badArg (fun b => roleBytes b.roles) ∧
    (r ≠ .cell → carried .setRole 28 [byte r.code, 0] (fun b => b.sup.mode ≠ .run ∧ b.roleInUse r = false)
      (fun b => { b with roles := b.roles.assign r none }) .ok (fun b => roleBytes (b.roles.assign r none))) ∧
    (r ≠ .cell → carried .setRole 28 [byte r.code, 0] (fun b => b.sup.mode = .run) id .wrongMode
      (fun b => roleBytes b.roles)) ∧
    (r ≠ .cell → carried .setRole 28 [byte r.code, 0] (fun b => b.sup.mode ≠ .run ∧ b.roleInUse r = true) id .badState
      (fun b => roleBytes b.roles)) ∧
    (∀ h : a < 64, carried .setForward 29 [byte a, byte w.code]
      (fun b => b.roles.roleOf a = none ∨ b.roles.roleOf a = some .cell)
      (fun b => { b with routes := b.routes.set a w h }) .ok
      (fun b => forwardBytes { b with routes := b.routes.set a w h } b.routes (byte a))) ∧
    (∀ h : a < 64, ∀ q, q ≠ Role.cell → carried .setForward 29 [byte a, byte w.code]
      (fun b => b.roles.roleOf a = some q ∧ b.sup.mode ≠ .run ∧ b.roleInUse q = false)
      (fun b => { b with routes := b.routes.set a w h }) .ok
      (fun b => forwardBytes { b with routes := b.routes.set a w h } b.routes (byte a))) ∧
    (∀ q, q ≠ Role.cell → carried .setForward 29 [byte a, byte w.code]
      (fun b => b.roles.roleOf a = some q ∧ b.sup.mode = .run) id .wrongMode
      (fun b => forwardBytes b b.routes (byte a))) ∧
    (∀ q, q ≠ Role.cell → carried .setForward 29 [byte a, byte w.code]
      (fun b => b.roles.roleOf a = some q ∧ b.sup.mode ≠ .run ∧ b.roleInUse q = true) id .badState
      (fun b => forwardBytes b b.routes (byte a)))

/-- Set Port stages the settings that are in range and not KEEP and leaves the active ones; one out of range, an unknown port or action is refused with BAD_ARG before the mode is looked at; a retrain is refused in RUN, takes an UP EAST port DOWN at once, which quarantines its tags with cause LINK (R115), and leaves an UP WEST port UP until its ANSWER has been sent (R192; what of the bring-up state a retrain resets: log 40). What follows in the same event is the model's finish (log 13). -/
def Obligations.SetPortStagesSettings : Prop :=
  (∀ (p r i act : Byte) (a b w : Nat), a < 65536 → b < 65536 → w < 65536 →
    (1 < p.toNat ∨ 1 < act.toNat ∨ (r ≠ 255 ∧ 2 < r.toNat) ∨ (a ≠ 65535 ∧ (a = 0 ∨ 255 < a)) ∨
      (b ≠ 65535 ∧ (b < 10 ∨ 2550 < b ∨ b % 10 ≠ 0)) ∨ (w ≠ 65535 ∧ (w = 0 ∨ 255 < w)) ∨ (i ≠ 255 ∧ 1 < i.toNat)) →
    carriedThen .setPort 30 ([p, r] ++ be2 a ++ be2 b ++ be2 w ++ [i, act]) (fun _ => True) id .badArg (fun _ => [])) ∧
  (∀ (p : Port) (rate : Rate) (x : PortSettings) (r i : Byte) (a b w : Nat),
    let args := fun act : Byte => [byte (portCode p), r] ++ be2 a ++ be2 b ++ be2 w ++ [i, act]
    let fits := fun s : Coordinator =>
      (r = byte rate.code ∨ (r = 255 ∧ rate = (s.link p).stagedRate)) ∧
      ((a = x.alignWindow ∧ 1 ≤ a ∧ a ≤ 255) ∨ (a = 65535 ∧ x.alignWindow = (s.link p).staged.alignWindow)) ∧
      ((b = x.bringUpLimit ∧ 10 ≤ b ∧ b ≤ 2550 ∧ b % 10 = 0) ∨ (b = 65535 ∧ x.bringUpLimit = (s.link p).staged.bringUpLimit)) ∧
      ((w = x.lockWait ∧ 1 ≤ w ∧ w ≤ 255) ∨ (w = 65535 ∧ x.lockWait = (s.link p).staged.lockWait)) ∧
      (i = (if x.lockIgnore then 1 else 0) ∨ (i = 255 ∧ x.lockIgnore = (s.link p).staged.lockIgnore))
    carriedThen .setPort 30 (args 0) fits (fun s => s.modLink p fun l => { l with stagedRate := rate, staged := x }) .ok
      (fun s => portBytes p { s.link p with stagedRate := rate, staged := x }) ∧
    carriedThen .setPort 30 (args 1) (fun s => fits s ∧ s.sup.mode = .run) id .wrongMode (fun _ => []) ∧
    (∀ s number src rest, s.blk.asks 30 number (args 1) src rest → fits s.blk → s.blk.sup.mode ≠ .run →
      (p = .east → s.blk.east.state = .up → ∃ t, exec .setPort s = .next t ∧ t.blk.east.state = .down ∧
        t.blk.east.lastLoss = .retrain ∧ t.blk.east.counters.losses = min (s.blk.east.counters.losses + 1) 65535 ∧
        t.blk.east.stagedRate = rate ∧ t.blk.east.staged = x ∧ t.blk.east.active = s.blk.east.active ∧
        t.blk.shows .portChange ∧
        ∀ (j : Fin 32) r d, s.blk.tags[j] = .pending r d → r.port = .east → t.blk.tags[j] = .quarantined r .link s.blk.timing[20]) ∧
      (p = .east → s.blk.east.state ≠ .up → ∃ t, exec .setPort s = .next t ∧ t.blk.east.state = .down ∧
        t.blk.east.retryDelay = 100 ∧ t.blk.east.counters = s.blk.east.counters ∧ t.blk.sup = s.blk.sup ∧
        s.blk.keepsTags t.blk) ∧
      (p = .west → ∃ t, exec .setPort s = .next t ∧ t.blk.west.state = .up ∧ t.blk.west.retrain = true ∧
        t.blk.west.staged = x ∧ t.blk.west.counters = s.blk.west.counters ∧ t.blk.sup = s.blk.sup ∧
        s.blk.keepsTags t.blk)))

/-- Set Notice takes a mask of the ten causes and a hold-off up to 1,000 ms, or keeps either, and Clear Notice removes the named causes; each keeps the due mark as R205 and R206 say, and a NOTICE then due follows the ANSWER (R205, R206; the newly enabled causes: log 37). -/
def Obligations.NoticeSettingsAndClears : Prop :=
  ∀ (m h : Nat) (s : State) (number : Byte) (src : Nat) (rest : List Frame), m < 65536 → h < 65536 →
    ((m < 1024 ∨ m = 65535) → (h ≤ 1000 ∨ h = 65535) → s.blk.asks 33 number (be2 m ++ be2 h) src rest →
      ∃ n : Notices, n.mask = (if m = 65535 then s.blk.notices.mask else BitVec.ofNat 10 m) ∧
        n.holdOff = (if h = 65535 then s.blk.notices.holdOff else h) ∧ n.pending = s.blk.notices.pending ∧
        n.since = s.blk.notices.since ∧ n.attention = s.blk.notices.attention ∧
        (n.pending &&& n.mask = 0 → n.due = false) ∧
        (n.pending &&& n.mask ≠ 0 → s.blk.notices.due = true → n.due = true) ∧
        (n.pending &&& n.mask &&& ~~~ s.blk.notices.mask ≠ 0 → n.due = true) ∧
        (n.pending &&& n.mask &&& ~~~ s.blk.notices.mask = 0 → s.blk.notices.due = false → n.due = false) ∧
        completes .setNotice s (({ s.blk.behind rest with notices := n }).answering src 33 number .ok
          (be2 n.mask.toNat ++ be2 n.holdOff ++ be2 n.pending.toNat)).placeNotice) ∧
    ((1024 ≤ m ∧ m ≠ 65535) ∨ (1000 < h ∧ h ≠ 65535) → s.blk.asks 33 number (be2 m ++ be2 h) src rest →
      completes .setNotice s ((s.blk.behind rest).answering src 33 number .badArg []).placeNotice) ∧
    (m < 1024 → s.blk.asks 34 number (be2 m) src rest →
      ∃ n : Notices, n.pending = s.blk.notices.pending &&& ~~~ BitVec.ofNat 10 m ∧ n.mask = s.blk.notices.mask ∧
        n.holdOff = s.blk.notices.holdOff ∧ n.since = s.blk.notices.since ∧
        (n.pending &&& n.mask = 0 → n.due = false) ∧ (n.pending &&& n.mask ≠ 0 → n.due = s.blk.notices.due) ∧
        (512 ≤ m → n.attention = s.blk.notices.attention.map fun x => { x with count := 0 }) ∧
        (m < 512 → n.attention = s.blk.notices.attention) ∧
        completes .clearNotice s (({ s.blk.behind rest with notices := n }).answering src 34 number .ok
          (be2 n.pending.toNat)).placeNotice) ∧
    (1024 ≤ m → s.blk.asks 34 number (be2 m) src rest →
      completes .clearNotice s ((s.blk.behind rest).answering src 34 number .badArg []).placeNotice)

/-- A request of no known kind is answered BAD_ARG, echoing the kind, and changes nothing (R197); so is a request of every known kind whose arguments are not exactly of the length its layout gives (R208, R210), and a secured one of these keeps its challenge by the model's choice (log 42). What follows in the same event is the NOTICE test after a notice request, and the model's finish after a request that may change what other blocks test (logs 13, 15). -/
def Obligations.UnfitRequestsAreRefused : Prop :=
  (∀ (k : Nat) (args : List Byte), k = 0 ∨ 36 ≤ k → k < 256 →
    carried .requestKindUnknown k args (fun _ => True) id .badArg (fun _ => [])) ∧
  (∀ (args : List Byte), ∀ c ∈ [(Instr.programOpen, 1, 9), (.stepWrite, 2, 14), (.programClose, 3, 3), (.programErase, 4, 1),
      (.readProgram, 5, 2), (.liftAdmit, 6, 4), (.readLift, 9, 1), (.readLine, 10, 0), (.readPiles, 12, 0), (.chopRun, 13, 3),
      (.readTiming, 15, 1), (.readOrders, 16, 1), (.readFaultRecord, 17, 0), (.clearFaultRecord, 18, 0),
      (.setSupervision, 21, 4), (.readChallenge, 22, 0), (.setRole, 28, 2), (.setForward, 29, 2), (.readIdentity, 31, 0),
      (.readStatus, 32, 1)],
    args.length ≠ c.2.2 → carried c.1 c.2.1 args (fun _ => True) id .badArg (fun _ => [])) ∧
  (∀ (args : List Byte), ∀ c ∈ [(Instr.liftCancel, 7, 1), (.liftResume, 8, 2), (.pileDeclare, 11, 3), (.loadTiming, 14, 5),
      (.setPressure, 19, 5), (.refresh, 20, 2), (.releaseSafe, 23, 2), (.enterSetup, 24, 2), (.leaveSetup, 25, 0),
      (.holdLine, 26, 0), (.resumeLine, 27, 0), (.setPort, 30, 10), (.lineReset, 35, 2)],
    args.length ≠ c.2.2 → carriedThen c.1 c.2.1 args (fun _ => True) id .badArg (fun _ => [])) ∧
  (∀ (args : List Byte), ∀ c ∈ [(Instr.setNotice, 33, 4), (.clearNotice, 34, 2)], args.length ≠ c.2.2 →
    ∀ s number src rest, s.blk.asks c.2.1 number args src rest →
      completes c.1 s ((s.blk.behind rest).answering src c.2.1 number .badArg []).placeNotice)

/-! ### The laws, kept by every step -/

/-- The laws hold in the model right after reset. -/
def Obligations.LawsHoldAtReset : Prop :=
  State.reset.blk.safeLaw ∧ State.reset.blk.countLaw ∧ State.reset.blk.useLaw ∧ State.reset.blk.infeedLaw ∧
  State.reset.blk.queueLaw ∧ State.reset.blk.roleLaw ∧ State.reset.blk.pressureLaw ∧ State.reset.blk.stationLaw ∧
  State.reset.blk.knifeLaw

/-- Every step keeps the law of SAFE and the law of the failure count (R148, R158): the SAFE output is asserted exactly in SAFE, where nothing is PENDING and nobody holds the grant. -/
def Obligations.StepKeepsSafeLaw : Prop :=
  ∀ s t : State, s.blk.safeLaw → s.blk.countLaw → step s = .next t → t.blk.safeLaw ∧ t.blk.countLaw

/-- Every step keeps the law of the use counts (R2), and the law of the slots, which the reset state meets: a LOADING or READY slot has a header of 1 to 40 steps and a step list of that length, and a READY one the checksum of its steps and every last cut in range (R1, R3, R9, R10). -/
def Obligations.StepKeepsUseCountsAndSlots : Prop :=
  (∀ s t : State, s.blk.useLaw → step s = .next t → t.blk.useLaw) ∧
  State.reset.blk.slotLaw ∧ ∀ s t : State, s.blk.slotLaw → step s = .next t → t.blk.slotLaw

/-- Every step keeps the law of the infeed (R48, R49), each pile place held by at most one pile among it, where no station has two PENDING orders. -/
def Obligations.StepKeepsInfeedLaw : Prop :=
  ∀ s t : State, s.blk.stationLaw → s.blk.infeedLaw → step s = .next t → t.blk.infeedLaw

/-- Every step keeps the bounds of the queues (R168, R195), and keeps the Role Table a table of distinct addresses 1–62 (R168, R176). -/
def Obligations.StepKeepsQueueBoundsAndRoles : Prop :=
  (∀ s t : State, s.blk.queueLaw → step s = .next t → t.blk.queueLaw) ∧
  (∀ s t : State, s.blk.roleLaw → step s = .next t → t.blk.roleLaw)

/-- Every step keeps the law of the stations (R103): none has more than one PENDING order; and the law of the supply (R126): a PENDING pressure order was sent to the holder's station. -/
def Obligations.StepKeepsStationAndSupplyLaws : Prop :=
  (∀ s t : State, s.blk.stationLaw → step s = .next t → t.blk.stationLaw) ∧
  (∀ s t : State, s.blk.pressureLaw → step s = .next t → t.blk.pressureLaw)

/-- Every step keeps the law of the knife (R81): a Knife Cut is PENDING only in RUN with the clamp DOWN and no GAUGE order PENDING. -/
def Obligations.StepKeepsKnifeLaw : Prop :=
  ∀ s t : State, s.blk.stationLaw → s.blk.knifeLaw → step s = .next t → t.blk.knifeLaw
end

