-- ==== Sys2Proof/Laws/State.lean ====
section
/-! SUPPORT. One lemma per field per update: what the plain updates of the part leave as it was, and what they change. -/

namespace Sys2Proof.Machine

variable (s : Coordinator)

/-! ### modLink -/

@[simp] theorem Coordinator.modLink_slots (p : Port) (f : Link → Link) : (s.modLink p f).slots = s.slots := by cases p <;> rfl
@[simp] theorem Coordinator.modLink_lifts (p : Port) (f : Link → Link) : (s.modLink p f).lifts = s.lifts := by cases p <;> rfl
@[simp] theorem Coordinator.modLink_tracker (p : Port) (f : Link → Link) : (s.modLink p f).tracker = s.tracker := by cases p <;> rfl
@[simp] theorem Coordinator.modLink_piles (p : Port) (f : Link → Link) : (s.modLink p f).piles = s.piles := by cases p <;> rfl
@[simp] theorem Coordinator.modLink_infeed (p : Port) (f : Link → Link) : (s.modLink p f).infeed = s.infeed := by cases p <;> rfl
@[simp] theorem Coordinator.modLink_cutter (p : Port) (f : Link → Link) : (s.modLink p f).cutter = s.cutter := by cases p <;> rfl
@[simp] theorem Coordinator.modLink_tags (p : Port) (f : Link → Link) : (s.modLink p f).tags = s.tags := by cases p <;> rfl
@[simp] theorem Coordinator.modLink_orders (p : Port) (f : Link → Link) : (s.modLink p f).orders = s.orders := by cases p <;> rfl
@[simp] theorem Coordinator.modLink_timing (p : Port) (f : Link → Link) : (s.modLink p f).timing = s.timing := by cases p <;> rfl
@[simp] theorem Coordinator.modLink_arbiter (p : Port) (f : Link → Link) : (s.modLink p f).arbiter = s.arbiter := by cases p <;> rfl
@[simp] theorem Coordinator.modLink_sup (p : Port) (f : Link → Link) : (s.modLink p f).sup = s.sup := by cases p <;> rfl
@[simp] theorem Coordinator.modLink_inputs (p : Port) (f : Link → Link) : (s.modLink p f).inputs = s.inputs := by cases p <;> rfl
@[simp] theorem Coordinator.modLink_roles (p : Port) (f : Link → Link) : (s.modLink p f).roles = s.roles := by cases p <;> rfl
@[simp] theorem Coordinator.modLink_routes (p : Port) (f : Link → Link) : (s.modLink p f).routes = s.routes := by cases p <;> rfl
@[simp] theorem Coordinator.modLink_agent (p : Port) (f : Link → Link) : (s.modLink p f).agent = s.agent := by cases p <;> rfl
@[simp] theorem Coordinator.modLink_notices (p : Port) (f : Link → Link) : (s.modLink p f).notices = s.notices := by cases p <;> rfl
@[simp] theorem Coordinator.modLink_lineTime (p : Port) (f : Link → Link) : (s.modLink p f).lineTime = s.lineTime := by cases p <;> rfl
@[simp] theorem Coordinator.modLink_draws (p : Port) (f : Link → Link) : (s.modLink p f).draws = s.draws := by cases p <;> rfl

@[simp] theorem Coordinator.modLink_link (p : Port) (f : Link → Link) : (s.modLink p f).link p = f (s.link p) := by cases p <;> rfl
@[simp] theorem Coordinator.modLink_link_west (f : Link → Link) : (s.modLink .west f).west = f s.west := rfl
@[simp] theorem Coordinator.modLink_link_east (f : Link → Link) : (s.modLink .east f).east = f s.east := rfl
@[simp] theorem Coordinator.modLink_west_east (f : Link → Link) : (s.modLink .west f).east = s.east := rfl
@[simp] theorem Coordinator.modLink_east_west (f : Link → Link) : (s.modLink .east f).west = s.west := rfl
theorem Coordinator.modLink_other {p q : Port} (h : q ≠ p) (f : Link → Link) : (s.modLink p f).link q = s.link q := by
  cases p <;> cases q <;> first | rfl | exact absurd rfl h

/-! ### placeOwn -/

@[simp] theorem Coordinator.placeOwn_slots (p : Port) (f : OwnFrame) : (s.placeOwn p f).slots = s.slots := by cases p <;> rfl
@[simp] theorem Coordinator.placeOwn_lifts (p : Port) (f : OwnFrame) : (s.placeOwn p f).lifts = s.lifts := by cases p <;> rfl
@[simp] theorem Coordinator.placeOwn_tracker (p : Port) (f : OwnFrame) : (s.placeOwn p f).tracker = s.tracker := by cases p <;> rfl
@[simp] theorem Coordinator.placeOwn_piles (p : Port) (f : OwnFrame) : (s.placeOwn p f).piles = s.piles := by cases p <;> rfl
@[simp] theorem Coordinator.placeOwn_infeed (p : Port) (f : OwnFrame) : (s.placeOwn p f).infeed = s.infeed := by cases p <;> rfl
@[simp] theorem Coordinator.placeOwn_cutter (p : Port) (f : OwnFrame) : (s.placeOwn p f).cutter = s.cutter := by cases p <;> rfl
@[simp] theorem Coordinator.placeOwn_tags (p : Port) (f : OwnFrame) : (s.placeOwn p f).tags = s.tags := by cases p <;> rfl
@[simp] theorem Coordinator.placeOwn_orders (p : Port) (f : OwnFrame) : (s.placeOwn p f).orders = s.orders := by cases p <;> rfl
@[simp] theorem Coordinator.placeOwn_timing (p : Port) (f : OwnFrame) : (s.placeOwn p f).timing = s.timing := by cases p <;> rfl
@[simp] theorem Coordinator.placeOwn_arbiter (p : Port) (f : OwnFrame) : (s.placeOwn p f).arbiter = s.arbiter := by cases p <;> rfl
@[simp] theorem Coordinator.placeOwn_sup (p : Port) (f : OwnFrame) : (s.placeOwn p f).sup = s.sup := by cases p <;> rfl
@[simp] theorem Coordinator.placeOwn_inputs (p : Port) (f : OwnFrame) : (s.placeOwn p f).inputs = s.inputs := by cases p <;> rfl
@[simp] theorem Coordinator.placeOwn_roles (p : Port) (f : OwnFrame) : (s.placeOwn p f).roles = s.roles := by cases p <;> rfl
@[simp] theorem Coordinator.placeOwn_routes (p : Port) (f : OwnFrame) : (s.placeOwn p f).routes = s.routes := by cases p <;> rfl
@[simp] theorem Coordinator.placeOwn_agent (p : Port) (f : OwnFrame) : (s.placeOwn p f).agent = s.agent := by cases p <;> rfl
@[simp] theorem Coordinator.placeOwn_notices (p : Port) (f : OwnFrame) : (s.placeOwn p f).notices = s.notices := by cases p <;> rfl
@[simp] theorem Coordinator.placeOwn_lineTime (p : Port) (f : OwnFrame) : (s.placeOwn p f).lineTime = s.lineTime := by cases p <;> rfl
@[simp] theorem Coordinator.placeOwn_draws (p : Port) (f : OwnFrame) : (s.placeOwn p f).draws = s.draws := by cases p <;> rfl

/-! ### place -/

@[simp] theorem Coordinator.place_slots (p : Port) (f : Frame) : (s.place p f).slots = s.slots := by cases p <;> rfl
@[simp] theorem Coordinator.place_lifts (p : Port) (f : Frame) : (s.place p f).lifts = s.lifts := by cases p <;> rfl
@[simp] theorem Coordinator.place_tracker (p : Port) (f : Frame) : (s.place p f).tracker = s.tracker := by cases p <;> rfl
@[simp] theorem Coordinator.place_piles (p : Port) (f : Frame) : (s.place p f).piles = s.piles := by cases p <;> rfl
@[simp] theorem Coordinator.place_infeed (p : Port) (f : Frame) : (s.place p f).infeed = s.infeed := by cases p <;> rfl
@[simp] theorem Coordinator.place_cutter (p : Port) (f : Frame) : (s.place p f).cutter = s.cutter := by cases p <;> rfl
@[simp] theorem Coordinator.place_tags (p : Port) (f : Frame) : (s.place p f).tags = s.tags := by cases p <;> rfl
@[simp] theorem Coordinator.place_orders (p : Port) (f : Frame) : (s.place p f).orders = s.orders := by cases p <;> rfl
@[simp] theorem Coordinator.place_timing (p : Port) (f : Frame) : (s.place p f).timing = s.timing := by cases p <;> rfl
@[simp] theorem Coordinator.place_arbiter (p : Port) (f : Frame) : (s.place p f).arbiter = s.arbiter := by cases p <;> rfl
@[simp] theorem Coordinator.place_sup (p : Port) (f : Frame) : (s.place p f).sup = s.sup := by cases p <;> rfl
@[simp] theorem Coordinator.place_inputs (p : Port) (f : Frame) : (s.place p f).inputs = s.inputs := by cases p <;> rfl
@[simp] theorem Coordinator.place_roles (p : Port) (f : Frame) : (s.place p f).roles = s.roles := by cases p <;> rfl
@[simp] theorem Coordinator.place_routes (p : Port) (f : Frame) : (s.place p f).routes = s.routes := by cases p <;> rfl
@[simp] theorem Coordinator.place_agent (p : Port) (f : Frame) : (s.place p f).agent = s.agent := by cases p <;> rfl
@[simp] theorem Coordinator.place_notices (p : Port) (f : Frame) : (s.place p f).notices = s.notices := by cases p <;> rfl
@[simp] theorem Coordinator.place_lineTime (p : Port) (f : Frame) : (s.place p f).lineTime = s.lineTime := by cases p <;> rfl
@[simp] theorem Coordinator.place_draws (p : Port) (f : Frame) : (s.place p f).draws = s.draws := by cases p <;> rfl

/-! ### countRouter -/

@[simp] theorem Coordinator.countRouter_slots (p : Port) (f : RouterCounters → RouterCounters) : (s.countRouter p f).slots = s.slots := by cases p <;> rfl
@[simp] theorem Coordinator.countRouter_lifts (p : Port) (f : RouterCounters → RouterCounters) : (s.countRouter p f).lifts = s.lifts := by cases p <;> rfl
@[simp] theorem Coordinator.countRouter_tracker (p : Port) (f : RouterCounters → RouterCounters) : (s.countRouter p f).tracker = s.tracker := by cases p <;> rfl
@[simp] theorem Coordinator.countRouter_piles (p : Port) (f : RouterCounters → RouterCounters) : (s.countRouter p f).piles = s.piles := by cases p <;> rfl
@[simp] theorem Coordinator.countRouter_infeed (p : Port) (f : RouterCounters → RouterCounters) : (s.countRouter p f).infeed = s.infeed := by cases p <;> rfl
@[simp] theorem Coordinator.countRouter_cutter (p : Port) (f : RouterCounters → RouterCounters) : (s.countRouter p f).cutter = s.cutter := by cases p <;> rfl
@[simp] theorem Coordinator.countRouter_tags (p : Port) (f : RouterCounters → RouterCounters) : (s.countRouter p f).tags = s.tags := by cases p <;> rfl
@[simp] theorem Coordinator.countRouter_orders (p : Port) (f : RouterCounters → RouterCounters) : (s.countRouter p f).orders = s.orders := by cases p <;> rfl
@[simp] theorem Coordinator.countRouter_timing (p : Port) (f : RouterCounters → RouterCounters) : (s.countRouter p f).timing = s.timing := by cases p <;> rfl
@[simp] theorem Coordinator.countRouter_arbiter (p : Port) (f : RouterCounters → RouterCounters) : (s.countRouter p f).arbiter = s.arbiter := by cases p <;> rfl
@[simp] theorem Coordinator.countRouter_sup (p : Port) (f : RouterCounters → RouterCounters) : (s.countRouter p f).sup = s.sup := by cases p <;> rfl
@[simp] theorem Coordinator.countRouter_inputs (p : Port) (f : RouterCounters → RouterCounters) : (s.countRouter p f).inputs = s.inputs := by cases p <;> rfl
@[simp] theorem Coordinator.countRouter_roles (p : Port) (f : RouterCounters → RouterCounters) : (s.countRouter p f).roles = s.roles := by cases p <;> rfl
@[simp] theorem Coordinator.countRouter_routes (p : Port) (f : RouterCounters → RouterCounters) : (s.countRouter p f).routes = s.routes := by cases p <;> rfl
@[simp] theorem Coordinator.countRouter_agent (p : Port) (f : RouterCounters → RouterCounters) : (s.countRouter p f).agent = s.agent := by cases p <;> rfl
@[simp] theorem Coordinator.countRouter_notices (p : Port) (f : RouterCounters → RouterCounters) : (s.countRouter p f).notices = s.notices := by cases p <;> rfl
@[simp] theorem Coordinator.countRouter_lineTime (p : Port) (f : RouterCounters → RouterCounters) : (s.countRouter p f).lineTime = s.lineTime := by cases p <;> rfl
@[simp] theorem Coordinator.countRouter_draws (p : Port) (f : RouterCounters → RouterCounters) : (s.countRouter p f).draws = s.draws := by cases p <;> rfl

/-! ### setCause -/

@[simp] theorem Coordinator.setCause_slots (c : Cause) : (s.setCause c).slots = s.slots := rfl
@[simp] theorem Coordinator.setCause_lifts (c : Cause) : (s.setCause c).lifts = s.lifts := rfl
@[simp] theorem Coordinator.setCause_tracker (c : Cause) : (s.setCause c).tracker = s.tracker := rfl
@[simp] theorem Coordinator.setCause_piles (c : Cause) : (s.setCause c).piles = s.piles := rfl
@[simp] theorem Coordinator.setCause_infeed (c : Cause) : (s.setCause c).infeed = s.infeed := rfl
@[simp] theorem Coordinator.setCause_cutter (c : Cause) : (s.setCause c).cutter = s.cutter := rfl
@[simp] theorem Coordinator.setCause_tags (c : Cause) : (s.setCause c).tags = s.tags := rfl
@[simp] theorem Coordinator.setCause_orders (c : Cause) : (s.setCause c).orders = s.orders := rfl
@[simp] theorem Coordinator.setCause_timing (c : Cause) : (s.setCause c).timing = s.timing := rfl
@[simp] theorem Coordinator.setCause_arbiter (c : Cause) : (s.setCause c).arbiter = s.arbiter := rfl
@[simp] theorem Coordinator.setCause_sup (c : Cause) : (s.setCause c).sup = s.sup := rfl
@[simp] theorem Coordinator.setCause_inputs (c : Cause) : (s.setCause c).inputs = s.inputs := rfl
@[simp] theorem Coordinator.setCause_roles (c : Cause) : (s.setCause c).roles = s.roles := rfl
@[simp] theorem Coordinator.setCause_routes (c : Cause) : (s.setCause c).routes = s.routes := rfl
@[simp] theorem Coordinator.setCause_west (c : Cause) : (s.setCause c).west = s.west := rfl
@[simp] theorem Coordinator.setCause_east (c : Cause) : (s.setCause c).east = s.east := rfl
@[simp] theorem Coordinator.setCause_agent (c : Cause) : (s.setCause c).agent = s.agent := rfl
@[simp] theorem Coordinator.setCause_lineTime (c : Cause) : (s.setCause c).lineTime = s.lineTime := rfl
@[simp] theorem Coordinator.setCause_draws (c : Cause) : (s.setCause c).draws = s.draws := rfl
@[simp] theorem Coordinator.setCause_notices (c : Cause) : (s.setCause c).notices = s.notices.set c := rfl

/-! ### setTag -/

@[simp] theorem Coordinator.setTag_slots (t : Fin 32) (x : Tag) : (s.setTag t x).slots = s.slots := rfl
@[simp] theorem Coordinator.setTag_lifts (t : Fin 32) (x : Tag) : (s.setTag t x).lifts = s.lifts := rfl
@[simp] theorem Coordinator.setTag_tracker (t : Fin 32) (x : Tag) : (s.setTag t x).tracker = s.tracker := rfl
@[simp] theorem Coordinator.setTag_piles (t : Fin 32) (x : Tag) : (s.setTag t x).piles = s.piles := rfl
@[simp] theorem Coordinator.setTag_infeed (t : Fin 32) (x : Tag) : (s.setTag t x).infeed = s.infeed := rfl
@[simp] theorem Coordinator.setTag_cutter (t : Fin 32) (x : Tag) : (s.setTag t x).cutter = s.cutter := rfl
@[simp] theorem Coordinator.setTag_orders (t : Fin 32) (x : Tag) : (s.setTag t x).orders = s.orders := rfl
@[simp] theorem Coordinator.setTag_timing (t : Fin 32) (x : Tag) : (s.setTag t x).timing = s.timing := rfl
@[simp] theorem Coordinator.setTag_arbiter (t : Fin 32) (x : Tag) : (s.setTag t x).arbiter = s.arbiter := rfl
@[simp] theorem Coordinator.setTag_sup (t : Fin 32) (x : Tag) : (s.setTag t x).sup = s.sup := rfl
@[simp] theorem Coordinator.setTag_inputs (t : Fin 32) (x : Tag) : (s.setTag t x).inputs = s.inputs := rfl
@[simp] theorem Coordinator.setTag_roles (t : Fin 32) (x : Tag) : (s.setTag t x).roles = s.roles := rfl
@[simp] theorem Coordinator.setTag_routes (t : Fin 32) (x : Tag) : (s.setTag t x).routes = s.routes := rfl
@[simp] theorem Coordinator.setTag_west (t : Fin 32) (x : Tag) : (s.setTag t x).west = s.west := rfl
@[simp] theorem Coordinator.setTag_east (t : Fin 32) (x : Tag) : (s.setTag t x).east = s.east := rfl
@[simp] theorem Coordinator.setTag_agent (t : Fin 32) (x : Tag) : (s.setTag t x).agent = s.agent := rfl
@[simp] theorem Coordinator.setTag_notices (t : Fin 32) (x : Tag) : (s.setTag t x).notices = s.notices := rfl
@[simp] theorem Coordinator.setTag_lineTime (t : Fin 32) (x : Tag) : (s.setTag t x).lineTime = s.lineTime := rfl
@[simp] theorem Coordinator.setTag_draws (t : Fin 32) (x : Tag) : (s.setTag t x).draws = s.draws := rfl
@[simp] theorem Coordinator.setTag_tags (t : Fin 32) (x : Tag) : (s.setTag t x).tags = s.tags.set t x := rfl

/-! ### modSlot -/

@[simp] theorem Coordinator.modSlot_lifts (n : Nat) (f : Slot → Slot) : (s.modSlot n f).lifts = s.lifts := by unfold Coordinator.modSlot; split <;> rfl
@[simp] theorem Coordinator.modSlot_tracker (n : Nat) (f : Slot → Slot) : (s.modSlot n f).tracker = s.tracker := by unfold Coordinator.modSlot; split <;> rfl
@[simp] theorem Coordinator.modSlot_piles (n : Nat) (f : Slot → Slot) : (s.modSlot n f).piles = s.piles := by unfold Coordinator.modSlot; split <;> rfl
@[simp] theorem Coordinator.modSlot_infeed (n : Nat) (f : Slot → Slot) : (s.modSlot n f).infeed = s.infeed := by unfold Coordinator.modSlot; split <;> rfl
@[simp] theorem Coordinator.modSlot_cutter (n : Nat) (f : Slot → Slot) : (s.modSlot n f).cutter = s.cutter := by unfold Coordinator.modSlot; split <;> rfl
@[simp] theorem Coordinator.modSlot_tags (n : Nat) (f : Slot → Slot) : (s.modSlot n f).tags = s.tags := by unfold Coordinator.modSlot; split <;> rfl
@[simp] theorem Coordinator.modSlot_orders (n : Nat) (f : Slot → Slot) : (s.modSlot n f).orders = s.orders := by unfold Coordinator.modSlot; split <;> rfl
@[simp] theorem Coordinator.modSlot_timing (n : Nat) (f : Slot → Slot) : (s.modSlot n f).timing = s.timing := by unfold Coordinator.modSlot; split <;> rfl
@[simp] theorem Coordinator.modSlot_arbiter (n : Nat) (f : Slot → Slot) : (s.modSlot n f).arbiter = s.arbiter := by unfold Coordinator.modSlot; split <;> rfl
@[simp] theorem Coordinator.modSlot_sup (n : Nat) (f : Slot → Slot) : (s.modSlot n f).sup = s.sup := by unfold Coordinator.modSlot; split <;> rfl
@[simp] theorem Coordinator.modSlot_inputs (n : Nat) (f : Slot → Slot) : (s.modSlot n f).inputs = s.inputs := by unfold Coordinator.modSlot; split <;> rfl
@[simp] theorem Coordinator.modSlot_roles (n : Nat) (f : Slot → Slot) : (s.modSlot n f).roles = s.roles := by unfold Coordinator.modSlot; split <;> rfl
@[simp] theorem Coordinator.modSlot_routes (n : Nat) (f : Slot → Slot) : (s.modSlot n f).routes = s.routes := by unfold Coordinator.modSlot; split <;> rfl
@[simp] theorem Coordinator.modSlot_west (n : Nat) (f : Slot → Slot) : (s.modSlot n f).west = s.west := by unfold Coordinator.modSlot; split <;> rfl
@[simp] theorem Coordinator.modSlot_east (n : Nat) (f : Slot → Slot) : (s.modSlot n f).east = s.east := by unfold Coordinator.modSlot; split <;> rfl
@[simp] theorem Coordinator.modSlot_agent (n : Nat) (f : Slot → Slot) : (s.modSlot n f).agent = s.agent := by unfold Coordinator.modSlot; split <;> rfl
@[simp] theorem Coordinator.modSlot_notices (n : Nat) (f : Slot → Slot) : (s.modSlot n f).notices = s.notices := by unfold Coordinator.modSlot; split <;> rfl
@[simp] theorem Coordinator.modSlot_lineTime (n : Nat) (f : Slot → Slot) : (s.modSlot n f).lineTime = s.lineTime := by unfold Coordinator.modSlot; split <;> rfl
@[simp] theorem Coordinator.modSlot_draws (n : Nat) (f : Slot → Slot) : (s.modSlot n f).draws = s.draws := by unfold Coordinator.modSlot; split <;> rfl

/-! ### modLift -/

@[simp] theorem Coordinator.modLift_slots (id : Nat) (f : Lift → Lift) : (s.modLift id f).slots = s.slots := rfl
@[simp] theorem Coordinator.modLift_tracker (id : Nat) (f : Lift → Lift) : (s.modLift id f).tracker = s.tracker := rfl
@[simp] theorem Coordinator.modLift_piles (id : Nat) (f : Lift → Lift) : (s.modLift id f).piles = s.piles := rfl
@[simp] theorem Coordinator.modLift_infeed (id : Nat) (f : Lift → Lift) : (s.modLift id f).infeed = s.infeed := rfl
@[simp] theorem Coordinator.modLift_cutter (id : Nat) (f : Lift → Lift) : (s.modLift id f).cutter = s.cutter := rfl
@[simp] theorem Coordinator.modLift_tags (id : Nat) (f : Lift → Lift) : (s.modLift id f).tags = s.tags := rfl
@[simp] theorem Coordinator.modLift_orders (id : Nat) (f : Lift → Lift) : (s.modLift id f).orders = s.orders := rfl
@[simp] theorem Coordinator.modLift_timing (id : Nat) (f : Lift → Lift) : (s.modLift id f).timing = s.timing := rfl
@[simp] theorem Coordinator.modLift_arbiter (id : Nat) (f : Lift → Lift) : (s.modLift id f).arbiter = s.arbiter := rfl
@[simp] theorem Coordinator.modLift_sup (id : Nat) (f : Lift → Lift) : (s.modLift id f).sup = s.sup := rfl
@[simp] theorem Coordinator.modLift_inputs (id : Nat) (f : Lift → Lift) : (s.modLift id f).inputs = s.inputs := rfl
@[simp] theorem Coordinator.modLift_roles (id : Nat) (f : Lift → Lift) : (s.modLift id f).roles = s.roles := rfl
@[simp] theorem Coordinator.modLift_routes (id : Nat) (f : Lift → Lift) : (s.modLift id f).routes = s.routes := rfl
@[simp] theorem Coordinator.modLift_west (id : Nat) (f : Lift → Lift) : (s.modLift id f).west = s.west := rfl
@[simp] theorem Coordinator.modLift_east (id : Nat) (f : Lift → Lift) : (s.modLift id f).east = s.east := rfl
@[simp] theorem Coordinator.modLift_agent (id : Nat) (f : Lift → Lift) : (s.modLift id f).agent = s.agent := rfl
@[simp] theorem Coordinator.modLift_notices (id : Nat) (f : Lift → Lift) : (s.modLift id f).notices = s.notices := rfl
@[simp] theorem Coordinator.modLift_lineTime (id : Nat) (f : Lift → Lift) : (s.modLift id f).lineTime = s.lineTime := rfl
@[simp] theorem Coordinator.modLift_draws (id : Nat) (f : Lift → Lift) : (s.modLift id f).draws = s.draws := rfl
@[simp] theorem Coordinator.modLift_lifts (id : Nat) (f : Lift → Lift) : (s.modLift id f).lifts = mapLift id f s.lifts := rfl

/-! ### modPile -/

@[simp] theorem Coordinator.modPile_slots (id : Nat) (f : Pile → Pile) : (s.modPile id f).slots = s.slots := rfl
@[simp] theorem Coordinator.modPile_lifts (id : Nat) (f : Pile → Pile) : (s.modPile id f).lifts = s.lifts := rfl
@[simp] theorem Coordinator.modPile_tracker (id : Nat) (f : Pile → Pile) : (s.modPile id f).tracker = s.tracker := rfl
@[simp] theorem Coordinator.modPile_infeed (id : Nat) (f : Pile → Pile) : (s.modPile id f).infeed = s.infeed := rfl
@[simp] theorem Coordinator.modPile_cutter (id : Nat) (f : Pile → Pile) : (s.modPile id f).cutter = s.cutter := rfl
@[simp] theorem Coordinator.modPile_tags (id : Nat) (f : Pile → Pile) : (s.modPile id f).tags = s.tags := rfl
@[simp] theorem Coordinator.modPile_orders (id : Nat) (f : Pile → Pile) : (s.modPile id f).orders = s.orders := rfl
@[simp] theorem Coordinator.modPile_timing (id : Nat) (f : Pile → Pile) : (s.modPile id f).timing = s.timing := rfl
@[simp] theorem Coordinator.modPile_arbiter (id : Nat) (f : Pile → Pile) : (s.modPile id f).arbiter = s.arbiter := rfl
@[simp] theorem Coordinator.modPile_sup (id : Nat) (f : Pile → Pile) : (s.modPile id f).sup = s.sup := rfl
@[simp] theorem Coordinator.modPile_inputs (id : Nat) (f : Pile → Pile) : (s.modPile id f).inputs = s.inputs := rfl
@[simp] theorem Coordinator.modPile_roles (id : Nat) (f : Pile → Pile) : (s.modPile id f).roles = s.roles := rfl
@[simp] theorem Coordinator.modPile_routes (id : Nat) (f : Pile → Pile) : (s.modPile id f).routes = s.routes := rfl
@[simp] theorem Coordinator.modPile_west (id : Nat) (f : Pile → Pile) : (s.modPile id f).west = s.west := rfl
@[simp] theorem Coordinator.modPile_east (id : Nat) (f : Pile → Pile) : (s.modPile id f).east = s.east := rfl
@[simp] theorem Coordinator.modPile_agent (id : Nat) (f : Pile → Pile) : (s.modPile id f).agent = s.agent := rfl
@[simp] theorem Coordinator.modPile_notices (id : Nat) (f : Pile → Pile) : (s.modPile id f).notices = s.notices := rfl
@[simp] theorem Coordinator.modPile_lineTime (id : Nat) (f : Pile → Pile) : (s.modPile id f).lineTime = s.lineTime := rfl
@[simp] theorem Coordinator.modPile_draws (id : Nat) (f : Pile → Pile) : (s.modPile id f).draws = s.draws := rfl
@[simp] theorem Coordinator.modPile_piles (id : Nat) (f : Pile → Pile) : (s.modPile id f).piles = s.piles.map fun p => if p.id == id then f p else p := rfl

/-! ### modCutter -/

@[simp] theorem Coordinator.modCutter_slots (f : Cutter → Cutter) : (s.modCutter f).slots = s.slots := rfl
@[simp] theorem Coordinator.modCutter_lifts (f : Cutter → Cutter) : (s.modCutter f).lifts = s.lifts := rfl
@[simp] theorem Coordinator.modCutter_tracker (f : Cutter → Cutter) : (s.modCutter f).tracker = s.tracker := rfl
@[simp] theorem Coordinator.modCutter_piles (f : Cutter → Cutter) : (s.modCutter f).piles = s.piles := rfl
@[simp] theorem Coordinator.modCutter_infeed (f : Cutter → Cutter) : (s.modCutter f).infeed = s.infeed := rfl
@[simp] theorem Coordinator.modCutter_tags (f : Cutter → Cutter) : (s.modCutter f).tags = s.tags := rfl
@[simp] theorem Coordinator.modCutter_orders (f : Cutter → Cutter) : (s.modCutter f).orders = s.orders := rfl
@[simp] theorem Coordinator.modCutter_timing (f : Cutter → Cutter) : (s.modCutter f).timing = s.timing := rfl
@[simp] theorem Coordinator.modCutter_arbiter (f : Cutter → Cutter) : (s.modCutter f).arbiter = s.arbiter := rfl
@[simp] theorem Coordinator.modCutter_sup (f : Cutter → Cutter) : (s.modCutter f).sup = s.sup := rfl
@[simp] theorem Coordinator.modCutter_inputs (f : Cutter → Cutter) : (s.modCutter f).inputs = s.inputs := rfl
@[simp] theorem Coordinator.modCutter_roles (f : Cutter → Cutter) : (s.modCutter f).roles = s.roles := rfl
@[simp] theorem Coordinator.modCutter_routes (f : Cutter → Cutter) : (s.modCutter f).routes = s.routes := rfl
@[simp] theorem Coordinator.modCutter_west (f : Cutter → Cutter) : (s.modCutter f).west = s.west := rfl
@[simp] theorem Coordinator.modCutter_east (f : Cutter → Cutter) : (s.modCutter f).east = s.east := rfl
@[simp] theorem Coordinator.modCutter_agent (f : Cutter → Cutter) : (s.modCutter f).agent = s.agent := rfl
@[simp] theorem Coordinator.modCutter_notices (f : Cutter → Cutter) : (s.modCutter f).notices = s.notices := rfl
@[simp] theorem Coordinator.modCutter_lineTime (f : Cutter → Cutter) : (s.modCutter f).lineTime = s.lineTime := rfl
@[simp] theorem Coordinator.modCutter_draws (f : Cutter → Cutter) : (s.modCutter f).draws = s.draws := rfl
@[simp] theorem Coordinator.modCutter_cutter (f : Cutter → Cutter) : (s.modCutter f).cutter = f s.cutter := rfl

/-! ### modArbiter -/

@[simp] theorem Coordinator.modArbiter_slots (f : Arbiter → Arbiter) : (s.modArbiter f).slots = s.slots := rfl
@[simp] theorem Coordinator.modArbiter_lifts (f : Arbiter → Arbiter) : (s.modArbiter f).lifts = s.lifts := rfl
@[simp] theorem Coordinator.modArbiter_tracker (f : Arbiter → Arbiter) : (s.modArbiter f).tracker = s.tracker := rfl
@[simp] theorem Coordinator.modArbiter_piles (f : Arbiter → Arbiter) : (s.modArbiter f).piles = s.piles := rfl
@[simp] theorem Coordinator.modArbiter_infeed (f : Arbiter → Arbiter) : (s.modArbiter f).infeed = s.infeed := rfl
@[simp] theorem Coordinator.modArbiter_cutter (f : Arbiter → Arbiter) : (s.modArbiter f).cutter = s.cutter := rfl
@[simp] theorem Coordinator.modArbiter_tags (f : Arbiter → Arbiter) : (s.modArbiter f).tags = s.tags := rfl
@[simp] theorem Coordinator.modArbiter_orders (f : Arbiter → Arbiter) : (s.modArbiter f).orders = s.orders := rfl
@[simp] theorem Coordinator.modArbiter_timing (f : Arbiter → Arbiter) : (s.modArbiter f).timing = s.timing := rfl
@[simp] theorem Coordinator.modArbiter_sup (f : Arbiter → Arbiter) : (s.modArbiter f).sup = s.sup := rfl
@[simp] theorem Coordinator.modArbiter_inputs (f : Arbiter → Arbiter) : (s.modArbiter f).inputs = s.inputs := rfl
@[simp] theorem Coordinator.modArbiter_roles (f : Arbiter → Arbiter) : (s.modArbiter f).roles = s.roles := rfl
@[simp] theorem Coordinator.modArbiter_routes (f : Arbiter → Arbiter) : (s.modArbiter f).routes = s.routes := rfl
@[simp] theorem Coordinator.modArbiter_west (f : Arbiter → Arbiter) : (s.modArbiter f).west = s.west := rfl
@[simp] theorem Coordinator.modArbiter_east (f : Arbiter → Arbiter) : (s.modArbiter f).east = s.east := rfl
@[simp] theorem Coordinator.modArbiter_agent (f : Arbiter → Arbiter) : (s.modArbiter f).agent = s.agent := rfl
@[simp] theorem Coordinator.modArbiter_notices (f : Arbiter → Arbiter) : (s.modArbiter f).notices = s.notices := rfl
@[simp] theorem Coordinator.modArbiter_lineTime (f : Arbiter → Arbiter) : (s.modArbiter f).lineTime = s.lineTime := rfl
@[simp] theorem Coordinator.modArbiter_draws (f : Arbiter → Arbiter) : (s.modArbiter f).draws = s.draws := rfl
@[simp] theorem Coordinator.modArbiter_arbiter (f : Arbiter → Arbiter) : (s.modArbiter f).arbiter = f s.arbiter := rfl

/-! ### modSup -/

@[simp] theorem Coordinator.modSup_slots (f : Supervisor → Supervisor) : (s.modSup f).slots = s.slots := rfl
@[simp] theorem Coordinator.modSup_lifts (f : Supervisor → Supervisor) : (s.modSup f).lifts = s.lifts := rfl
@[simp] theorem Coordinator.modSup_tracker (f : Supervisor → Supervisor) : (s.modSup f).tracker = s.tracker := rfl
@[simp] theorem Coordinator.modSup_piles (f : Supervisor → Supervisor) : (s.modSup f).piles = s.piles := rfl
@[simp] theorem Coordinator.modSup_infeed (f : Supervisor → Supervisor) : (s.modSup f).infeed = s.infeed := rfl
@[simp] theorem Coordinator.modSup_cutter (f : Supervisor → Supervisor) : (s.modSup f).cutter = s.cutter := rfl
@[simp] theorem Coordinator.modSup_tags (f : Supervisor → Supervisor) : (s.modSup f).tags = s.tags := rfl
@[simp] theorem Coordinator.modSup_orders (f : Supervisor → Supervisor) : (s.modSup f).orders = s.orders := rfl
@[simp] theorem Coordinator.modSup_timing (f : Supervisor → Supervisor) : (s.modSup f).timing = s.timing := rfl
@[simp] theorem Coordinator.modSup_arbiter (f : Supervisor → Supervisor) : (s.modSup f).arbiter = s.arbiter := rfl
@[simp] theorem Coordinator.modSup_inputs (f : Supervisor → Supervisor) : (s.modSup f).inputs = s.inputs := rfl
@[simp] theorem Coordinator.modSup_roles (f : Supervisor → Supervisor) : (s.modSup f).roles = s.roles := rfl
@[simp] theorem Coordinator.modSup_routes (f : Supervisor → Supervisor) : (s.modSup f).routes = s.routes := rfl
@[simp] theorem Coordinator.modSup_west (f : Supervisor → Supervisor) : (s.modSup f).west = s.west := rfl
@[simp] theorem Coordinator.modSup_east (f : Supervisor → Supervisor) : (s.modSup f).east = s.east := rfl
@[simp] theorem Coordinator.modSup_agent (f : Supervisor → Supervisor) : (s.modSup f).agent = s.agent := rfl
@[simp] theorem Coordinator.modSup_notices (f : Supervisor → Supervisor) : (s.modSup f).notices = s.notices := rfl
@[simp] theorem Coordinator.modSup_lineTime (f : Supervisor → Supervisor) : (s.modSup f).lineTime = s.lineTime := rfl
@[simp] theorem Coordinator.modSup_draws (f : Supervisor → Supervisor) : (s.modSup f).draws = s.draws := rfl
@[simp] theorem Coordinator.modSup_sup (f : Supervisor → Supervisor) : (s.modSup f).sup = f s.sup := rfl

/-! ### modInputs -/

@[simp] theorem Coordinator.modInputs_slots (f : Inputs → Inputs) : (s.modInputs f).slots = s.slots := rfl
@[simp] theorem Coordinator.modInputs_lifts (f : Inputs → Inputs) : (s.modInputs f).lifts = s.lifts := rfl
@[simp] theorem Coordinator.modInputs_tracker (f : Inputs → Inputs) : (s.modInputs f).tracker = s.tracker := rfl
@[simp] theorem Coordinator.modInputs_piles (f : Inputs → Inputs) : (s.modInputs f).piles = s.piles := rfl
@[simp] theorem Coordinator.modInputs_infeed (f : Inputs → Inputs) : (s.modInputs f).infeed = s.infeed := rfl
@[simp] theorem Coordinator.modInputs_cutter (f : Inputs → Inputs) : (s.modInputs f).cutter = s.cutter := rfl
@[simp] theorem Coordinator.modInputs_tags (f : Inputs → Inputs) : (s.modInputs f).tags = s.tags := rfl
@[simp] theorem Coordinator.modInputs_orders (f : Inputs → Inputs) : (s.modInputs f).orders = s.orders := rfl
@[simp] theorem Coordinator.modInputs_timing (f : Inputs → Inputs) : (s.modInputs f).timing = s.timing := rfl
@[simp] theorem Coordinator.modInputs_arbiter (f : Inputs → Inputs) : (s.modInputs f).arbiter = s.arbiter := rfl
@[simp] theorem Coordinator.modInputs_sup (f : Inputs → Inputs) : (s.modInputs f).sup = s.sup := rfl
@[simp] theorem Coordinator.modInputs_roles (f : Inputs → Inputs) : (s.modInputs f).roles = s.roles := rfl
@[simp] theorem Coordinator.modInputs_routes (f : Inputs → Inputs) : (s.modInputs f).routes = s.routes := rfl
@[simp] theorem Coordinator.modInputs_west (f : Inputs → Inputs) : (s.modInputs f).west = s.west := rfl
@[simp] theorem Coordinator.modInputs_east (f : Inputs → Inputs) : (s.modInputs f).east = s.east := rfl
@[simp] theorem Coordinator.modInputs_agent (f : Inputs → Inputs) : (s.modInputs f).agent = s.agent := rfl
@[simp] theorem Coordinator.modInputs_notices (f : Inputs → Inputs) : (s.modInputs f).notices = s.notices := rfl
@[simp] theorem Coordinator.modInputs_lineTime (f : Inputs → Inputs) : (s.modInputs f).lineTime = s.lineTime := rfl
@[simp] theorem Coordinator.modInputs_draws (f : Inputs → Inputs) : (s.modInputs f).draws = s.draws := rfl
@[simp] theorem Coordinator.modInputs_inputs (f : Inputs → Inputs) : (s.modInputs f).inputs = f s.inputs := rfl

/-! ### setMode -/

@[simp] theorem Coordinator.setMode_slots (m : Mode) (c : ModeCause) : (s.setMode m c).slots = s.slots := rfl
@[simp] theorem Coordinator.setMode_lifts (m : Mode) (c : ModeCause) : (s.setMode m c).lifts = s.lifts := rfl
@[simp] theorem Coordinator.setMode_tracker (m : Mode) (c : ModeCause) : (s.setMode m c).tracker = s.tracker := rfl
@[simp] theorem Coordinator.setMode_piles (m : Mode) (c : ModeCause) : (s.setMode m c).piles = s.piles := rfl
@[simp] theorem Coordinator.setMode_infeed (m : Mode) (c : ModeCause) : (s.setMode m c).infeed = s.infeed := rfl
@[simp] theorem Coordinator.setMode_cutter (m : Mode) (c : ModeCause) : (s.setMode m c).cutter = s.cutter := rfl
@[simp] theorem Coordinator.setMode_tags (m : Mode) (c : ModeCause) : (s.setMode m c).tags = s.tags := rfl
@[simp] theorem Coordinator.setMode_orders (m : Mode) (c : ModeCause) : (s.setMode m c).orders = s.orders := rfl
@[simp] theorem Coordinator.setMode_timing (m : Mode) (c : ModeCause) : (s.setMode m c).timing = s.timing := rfl
@[simp] theorem Coordinator.setMode_arbiter (m : Mode) (c : ModeCause) : (s.setMode m c).arbiter = s.arbiter := rfl
@[simp] theorem Coordinator.setMode_inputs (m : Mode) (c : ModeCause) : (s.setMode m c).inputs = s.inputs := rfl
@[simp] theorem Coordinator.setMode_roles (m : Mode) (c : ModeCause) : (s.setMode m c).roles = s.roles := rfl
@[simp] theorem Coordinator.setMode_routes (m : Mode) (c : ModeCause) : (s.setMode m c).routes = s.routes := rfl
@[simp] theorem Coordinator.setMode_west (m : Mode) (c : ModeCause) : (s.setMode m c).west = s.west := rfl
@[simp] theorem Coordinator.setMode_east (m : Mode) (c : ModeCause) : (s.setMode m c).east = s.east := rfl
@[simp] theorem Coordinator.setMode_agent (m : Mode) (c : ModeCause) : (s.setMode m c).agent = s.agent := rfl
@[simp] theorem Coordinator.setMode_lineTime (m : Mode) (c : ModeCause) : (s.setMode m c).lineTime = s.lineTime := rfl
@[simp] theorem Coordinator.setMode_draws (m : Mode) (c : ModeCause) : (s.setMode m c).draws = s.draws := rfl
@[simp] theorem Coordinator.setMode_sup (m : Mode) (c : ModeCause) : (s.setMode m c).sup = { s.sup with mode := m, cause := c } := rfl
@[simp] theorem Coordinator.setMode_notices (m : Mode) (c : ModeCause) : (s.setMode m c).notices = s.notices.set .modeChange := rfl

/-! ### startRecovery -/

@[simp] theorem Coordinator.startRecovery_slots : (s.startRecovery).slots = s.slots := rfl
@[simp] theorem Coordinator.startRecovery_tracker : (s.startRecovery).tracker = s.tracker := rfl
@[simp] theorem Coordinator.startRecovery_piles : (s.startRecovery).piles = s.piles := rfl
@[simp] theorem Coordinator.startRecovery_infeed : (s.startRecovery).infeed = s.infeed := rfl
@[simp] theorem Coordinator.startRecovery_tags : (s.startRecovery).tags = s.tags := rfl
@[simp] theorem Coordinator.startRecovery_orders : (s.startRecovery).orders = s.orders := rfl
@[simp] theorem Coordinator.startRecovery_timing : (s.startRecovery).timing = s.timing := rfl
@[simp] theorem Coordinator.startRecovery_arbiter : (s.startRecovery).arbiter = s.arbiter := rfl
@[simp] theorem Coordinator.startRecovery_sup : (s.startRecovery).sup = s.sup := rfl
@[simp] theorem Coordinator.startRecovery_inputs : (s.startRecovery).inputs = s.inputs := rfl
@[simp] theorem Coordinator.startRecovery_roles : (s.startRecovery).roles = s.roles := rfl
@[simp] theorem Coordinator.startRecovery_routes : (s.startRecovery).routes = s.routes := rfl
@[simp] theorem Coordinator.startRecovery_west : (s.startRecovery).west = s.west := rfl
@[simp] theorem Coordinator.startRecovery_east : (s.startRecovery).east = s.east := rfl
@[simp] theorem Coordinator.startRecovery_agent : (s.startRecovery).agent = s.agent := rfl
@[simp] theorem Coordinator.startRecovery_notices : (s.startRecovery).notices = s.notices := rfl
@[simp] theorem Coordinator.startRecovery_lineTime : (s.startRecovery).lineTime = s.lineTime := rfl
@[simp] theorem Coordinator.startRecovery_draws : (s.startRecovery).draws = s.draws := rfl

/-! ### revoke -/

@[simp] theorem Coordinator.revoke_slots : (s.revoke).slots = s.slots := rfl
@[simp] theorem Coordinator.revoke_lifts : (s.revoke).lifts = s.lifts := rfl
@[simp] theorem Coordinator.revoke_tracker : (s.revoke).tracker = s.tracker := rfl
@[simp] theorem Coordinator.revoke_piles : (s.revoke).piles = s.piles := rfl
@[simp] theorem Coordinator.revoke_infeed : (s.revoke).infeed = s.infeed := rfl
@[simp] theorem Coordinator.revoke_tags : (s.revoke).tags = s.tags := rfl
@[simp] theorem Coordinator.revoke_orders : (s.revoke).orders = s.orders := rfl
@[simp] theorem Coordinator.revoke_timing : (s.revoke).timing = s.timing := rfl
@[simp] theorem Coordinator.revoke_sup : (s.revoke).sup = s.sup := rfl
@[simp] theorem Coordinator.revoke_inputs : (s.revoke).inputs = s.inputs := rfl
@[simp] theorem Coordinator.revoke_roles : (s.revoke).roles = s.roles := rfl
@[simp] theorem Coordinator.revoke_routes : (s.revoke).routes = s.routes := rfl
@[simp] theorem Coordinator.revoke_west : (s.revoke).west = s.west := rfl
@[simp] theorem Coordinator.revoke_east : (s.revoke).east = s.east := rfl
@[simp] theorem Coordinator.revoke_agent : (s.revoke).agent = s.agent := rfl
@[simp] theorem Coordinator.revoke_notices : (s.revoke).notices = s.notices := rfl
@[simp] theorem Coordinator.revoke_lineTime : (s.revoke).lineTime = s.lineTime := rfl
@[simp] theorem Coordinator.revoke_draws : (s.revoke).draws = s.draws := rfl

end Sys2Proof.Machine
end

