-- ==== Sys2Proof/Laws/Settle.lean ====
section
/-! SUPPORT. What the end of an event can do: the frame of finish, through every operation it is made of. -/

namespace Sys2Proof.Machine

/-! ### The transmit side -/

/-- Two states of a port that differ in the transmit side alone: queues, HALT and HELLO answer pending, burst count, frame being sent. -/
structure Link.SameWire (l m : Link) : Prop where
  state : m.state = l.state
  rate : m.rate = l.rate
  active : m.active = l.active
  stagedRate : m.stagedRate = l.stagedRate
  staged : m.staged = l.staged
  retryDelay : m.retryDelay = l.retryDelay
  bringUp : m.bringUp = l.bringUp
  window : m.window = l.window
  hellos : m.hellos = l.hellos
  badRun : m.badRun = l.badRun
  retrain : m.retrain = l.retrain
  lastLoss : m.lastLoss = l.lastLoss
  counters : m.counters = l.counters
  router : m.router = l.router

theorem Link.SameWire.refl (l : Link) : l.SameWire l := by constructor <;> rfl

theorem Link.SameWire.trans {l m n : Link} (h : l.SameWire m) (k : m.SameWire n) : l.SameWire n :=
  ⟨k.1.trans h.1, k.2.trans h.2, k.3.trans h.3, k.4.trans h.4, k.5.trans h.5, k.6.trans h.6, k.7.trans h.7, k.8.trans h.8,
    k.9.trans h.9, k.10.trans h.10, k.11.trans h.11, k.12.trans h.12, k.13.trans h.13, k.14.trans h.14⟩

theorem Link.sendForward_sameWire (l : Link) : l.SameWire l.sendForward := by
  unfold Link.sendForward; split <;> constructor <;> rfl

theorem Link.sendOwn_sameWire (l : Link) : l.SameWire l.sendOwn := by
  unfold Link.sendOwn; split <;> constructor <;> rfl

theorem Link.transmit_sameWire (l : Link) : l.SameWire l.transmit := by
  unfold Link.transmit
  split
  · split
    · constructor <;> rfl
    · split
      · constructor <;> rfl
      · split
        · exact l.sendForward_sameWire
        · split
          · exact l.sendOwn_sameWire
          · exact l.sendForward_sameWire
  · exact .refl l

/-! ### The frame of the end of an event -/

/-- All that settling leaves as it was. -/
structure Coordinator.Settled (s t : Coordinator) : Prop where
  slots : t.slots = s.slots
  timing : t.timing = s.timing
  sup : t.sup = s.sup
  inputs : t.inputs = s.inputs
  roles : t.roles = s.roles
  routes : t.routes = s.routes
  agent : t.agent = s.agent
  lineTime : t.lineTime = s.lineTime
  draws : t.draws = s.draws
  clamp : t.cutter.clamp = s.cutter.clamp
  knife : t.cutter.knife = s.cutter.knife
  gauge : t.cutter.gauge = s.cutter.gauge
  rotator : t.cutter.rotator = s.cutter.rotator
  recovery : t.cutter.recovery = s.cutter.recovery
  /-- Every start event but Knife Cut issue. -/
  spacing : { t.cutter.spacing with knifeIssue := none } = { s.cutter.spacing with knifeIssue := none }
  firstFault : t.orders.firstFault = s.orders.firstFault
  faultCount : t.orders.faultCount = s.orders.faultCount
  staleCount : t.orders.staleCount = s.orders.staleCount
  west : s.west.SameWire t.west
  east : s.east.SameWire t.east
  mask : t.notices.mask = s.notices.mask
  holdOff : t.notices.holdOff = s.notices.holdOff
  attention : t.notices.attention = s.notices.attention
  lifts : t.lifts.map Lift.identity = s.lifts.map Lift.identity
  piles : t.piles.map Pile.identity = s.piles.map Pile.identity
  tags : ∀ i : Fin 32, s.tags[i] ≠ .free → t.tags[i] = s.tags[i]
  priority : t.arbiter.priority = s.arbiter.priority
  holdOver : t.arbiter.holdOver = s.arbiter.holdOver
  cap : t.arbiter.cap = s.arbiter.cap

namespace Coordinator

theorem Settled.refl (s : Coordinator) : s.Settled s := by
  constructor <;> first | rfl | exact Link.SameWire.refl _ | exact fun _ _ => rfl

theorem Settled.trans {s t u : Coordinator} (h : s.Settled t) (k : t.Settled u) : s.Settled u where
  slots := k.slots.trans h.slots
  timing := k.timing.trans h.timing
  sup := k.sup.trans h.sup
  inputs := k.inputs.trans h.inputs
  roles := k.roles.trans h.roles
  routes := k.routes.trans h.routes
  agent := k.agent.trans h.agent
  lineTime := k.lineTime.trans h.lineTime
  draws := k.draws.trans h.draws
  clamp := k.clamp.trans h.clamp
  knife := k.knife.trans h.knife
  gauge := k.gauge.trans h.gauge
  rotator := k.rotator.trans h.rotator
  recovery := k.recovery.trans h.recovery
  spacing := k.spacing.trans h.spacing
  firstFault := k.firstFault.trans h.firstFault
  faultCount := k.faultCount.trans h.faultCount
  staleCount := k.staleCount.trans h.staleCount
  west := h.west.trans k.west
  east := h.east.trans k.east
  mask := k.mask.trans h.mask
  holdOff := k.holdOff.trans h.holdOff
  attention := k.attention.trans h.attention
  lifts := k.lifts.trans h.lifts
  piles := k.piles.trans h.piles
  tags i hi := (k.tags i (by rw [h.tags i hi]; exact hi)).trans (h.tags i hi)
  priority := k.priority.trans h.priority
  holdOver := k.holdOver.trans h.holdOver
  cap := k.cap.trans h.cap

/-- A change of a port's transmit side alone. -/
theorem modLink_settled (s : Coordinator) (p : Port) (f : Link → Link) (h : ∀ l : Link, l.SameWire (f l)) :
    s.Settled (s.modLink p f) := by
  cases p <;> constructor <;> first | rfl | exact h _ | exact Link.SameWire.refl _ | exact fun _ _ => rfl

theorem place_settled (s : Coordinator) (p : Port) (f : Frame) : s.Settled (s.place p f) :=
  s.modLink_settled p _ fun l =>
    Link.SameWire.trans (m := { l with own := l.own ++ [⟨f, false⟩] }) (by constructor <;> rfl) (Link.transmit_sameWire _)

/-- A change of what settling may change in one lift. -/
theorem modLift_settled (s : Coordinator) (id : Nat) (f : Lift → Lift) (h : ∀ l : Lift, (f l).identity = l.identity) :
    s.Settled (s.modLift id f) := by
  have e : (mapLift id f s.lifts).map Lift.identity = s.lifts.map Lift.identity := by
    simp only [mapLift, List.map_map]
    apply List.map_congr_left
    intro l _
    simp only [Function.comp]
    split
    · exact h l
    · rfl
  constructor <;> first | rfl | exact e | exact Link.SameWire.refl _ | exact fun _ _ => rfl

/-- A change of what settling may change in one pile. -/
theorem modPile_settled (s : Coordinator) (id : Nat) (f : Pile → Pile) (h : ∀ p : Pile, (f p).identity = p.identity) :
    s.Settled (s.modPile id f) := by
  have e : (s.modPile id f).piles.map Pile.identity = s.piles.map Pile.identity := by
    simp only [modPile, List.map_map]
    apply List.map_congr_left
    intro p _
    simp only [Function.comp]
    split
    · exact h p
    · rfl
  constructor <;> first | rfl | exact e | exact Link.SameWire.refl _ | exact fun _ _ => rfl

/-- A change of the Cutter Sequencer that leaves unit states, recovery stage and every start event but Knife Cut issue. -/
theorem modCutter_settled (s : Coordinator) (f : Cutter → Cutter)
    (h : ∀ c : Cutter, (f c).clamp = c.clamp ∧ (f c).knife = c.knife ∧ (f c).gauge = c.gauge ∧ (f c).rotator = c.rotator ∧
      (f c).recovery = c.recovery ∧ { (f c).spacing with knifeIssue := none } = { c.spacing with knifeIssue := none }) :
    s.Settled (s.modCutter f) := by
  constructor <;> first
    | rfl | exact (h _).1 | exact (h _).2.1 | exact (h _).2.2.1 | exact (h _).2.2.2.1 | exact (h _).2.2.2.2.1
    | exact (h _).2.2.2.2.2
    | exact Link.SameWire.refl _ | exact fun _ _ => rfl

theorem modArbiter_settled (s : Coordinator) (f : Arbiter → Arbiter)
    (h : ∀ a : Arbiter, (f a).priority = a.priority ∧ (f a).holdOver = a.holdOver ∧ (f a).cap = a.cap) :
    s.Settled (s.modArbiter f) := by
  constructor <;> first
    | rfl | exact (h _).1 | exact (h _).2.1 | exact (h _).2.2 | exact Link.SameWire.refl _ | exact fun _ _ => rfl

theorem setInfeed_settled (s : Coordinator) (x : Infeed) : s.Settled { s with infeed := x } := by
  constructor <;> first | rfl | exact Link.SameWire.refl _ | exact fun _ _ => rfl

theorem setTracker_settled (s : Coordinator) (x : Tracker) : s.Settled { s with tracker := x } := by
  constructor <;> first | rfl | exact Link.SameWire.refl _ | exact fun _ _ => rfl

theorem setRequests_settled (s : Coordinator) (x : List IssueRequest) :
    s.Settled { s with orders := { s.orders with requests := x } } := by
  constructor <;> first | rfl | exact Link.SameWire.refl _ | exact fun _ _ => rfl

theorem setMark_settled (s : Coordinator) (n : Nat) : s.Settled { s with orders := { s.orders with mark := n } } := by
  constructor <;> first | rfl | exact Link.SameWire.refl _ | exact fun _ _ => rfl

theorem setCause_settled (s : Coordinator) (c : Cause) : s.Settled (s.setCause c) := by
  have h : (s.notices.set c).mask = s.notices.mask ∧ (s.notices.set c).holdOff = s.notices.holdOff ∧
      (s.notices.set c).attention = s.notices.attention := by
    unfold Notices.set; split <;> exact ⟨rfl, rfl, rfl⟩
  constructor <;> first | rfl | exact h.1 | exact h.2.1 | exact h.2.2 | exact Link.SameWire.refl _ | exact fun _ _ => rfl

theorem setTag_settled (s : Coordinator) (t : Fin 32) (x : Tag) (h : s.tags[t] = .free) : s.Settled (s.setTag t x) := by
  have e : ∀ i : Fin 32, s.tags[i] ≠ .free → (s.setTag t x).tags[i] = s.tags[i] := by
    intro i hi
    by_cases c : t.val = i.val
    · have : t = i := Fin.ext c
      subst this; exact absurd h hi
    · simp [setTag, c]
  constructor <;> first | rfl | exact e | exact Link.SameWire.refl _

/-! ### Idle and NOTICE -/

theorem idle_settled (s : Coordinator) (r : Role) (x : IdleReason) : s.Settled (s.idle r x) := by
  unfold idle
  split
  · exact s.setInfeed_settled _
  · split
    · exact .refl s
    · split
      · exact .refl s
      · split
        · exact .refl s
        · split
          · exact s.place_settled _ _
          · exact s.setInfeed_settled _

theorem placeIdle_settled (s : Coordinator) (r : Role) : s.Settled (s.placeIdle r) := by
  unfold placeIdle
  split
  · split
    · exact (s.setInfeed_settled _).trans (place_settled _ _ _)
    · exact .refl s
  · exact .refl s

theorem placeIdles_settled (s : Coordinator) : s.Settled s.placeIdles :=
  (s.placeIdle_settled _).trans (placeIdle_settled _ _)

theorem placeNotice_settled (s : Coordinator) : s.Settled s.placeNotice := by
  unfold placeNotice
  split
  · refine Settled.trans (t := { s with notices := { s.notices with due := false, since := 0 } }) ?_ (place_settled _ _ _)
    constructor <;> first | rfl | exact Link.SameWire.refl _ | exact fun _ _ => rfl
  · exact .refl s

/-! ### The Cutter Sequencer moving on -/

theorem hold_settled (s : Coordinator) (id : Nat) (c : HoldCause) : s.Settled (s.hold id c) := by
  unfold hold
  split
  · split
    all_goals first | exact .refl s | exact (s.modLift_settled _ _ (by intro _; rfl)).trans (setCause_settled _ _)
  · exact .refl s

theorem enterStep_settled (s : Coordinator) (id : Nat) : s.Settled (s.enterStep id) := by
  unfold enterStep
  split
  · exact .refl s
  · refine (s.modCutter_settled (fun c => { c with cutNumber := 0 }) (by intro _; exact ⟨rfl, rfl, rfl, rfl, rfl, rfl⟩)).trans ?_
    split
    · split
      · split <;> exact modLift_settled _ _ _ (by intro _; rfl)
      · exact modLift_settled _ _ _ (by intro _; rfl)
    · exact modLift_settled _ _ _ (by intro _; rfl)

theorem readyIfRecovered_settled (s : Coordinator) (id : Nat) : s.Settled (s.readyIfRecovered id) := by
  unfold readyIfRecovered
  split
  · exact s.modLift_settled _ _ fun l => by split <;> rfl
  · exact .refl s

theorem completeStep_settled (s : Coordinator) (id : Nat) : s.Settled (s.completeStep id) := by
  unfold completeStep
  split
  · exact .refl s
  · rename_i l _
    have h : s.Settled (s.modLift id fun x => { x with stepIndex := x.stepIndex + 1 }) := s.modLift_settled _ _ (by intro _; rfl)
    split
    · exact h.trans (enterStep_settled _ _)
    · exact h.trans ((modLift_settled _ _ _ (by intro _; rfl)).trans (readyIfRecovered_settled _ _))

theorem takeUp_settled (s : Coordinator) (l : Lift) (st : Step) : s.Settled (s.takeUp l st) := by
  unfold takeUp
  dsimp only
  split
  · have h : s.Settled (s.modCutter fun c =>
        { c with
          cutTarget := some (gaugeTarget l st s.cutter.cutNumber).toNat
          stage := c.stageFor (gaugeTarget l st s.cutter.cutNumber).toNat }) :=
      s.modCutter_settled _ (by intro _; exact ⟨rfl, rfl, rfl, rfl, rfl, rfl⟩)
    split
    · exact h.trans (modLift_settled _ _ _ (by intro _; rfl))
    · exact h
  · exact s.hold_settled _ _

theorem advance_settled (n : Nat) (s : Coordinator) : s.Settled (s.advance n) := by
  induction n generalizing s with
  | zero => exact .refl s
  | succ n ih =>
    unfold advance
    repeat' split
    all_goals first
      | exact .refl s
      | exact s.hold_settled _ _
      | exact s.takeUp_settled _ _
      | exact (s.completeStep_settled _).trans (ih _)

/-! ### Calls and the grant -/

theorem answerStopped_settled (s : Coordinator) : s.Settled s.answerStopped := by
  unfold answerStopped
  split
  · exact .refl s
  · have h : s.Settled (if s.infeed.turnerCall = true
        then ({ s with infeed := { s.infeed with turnerCall := false } }).idle .turner .stopped else s) := by
      split
      · exact (s.setInfeed_settled _).trans (idle_settled _ _ _)
      · exact .refl s
    refine h.trans ?_
    generalize (if s.infeed.turnerCall = true
        then ({ s with infeed := { s.infeed with turnerCall := false } }).idle .turner .stopped else s) = t
    dsimp only
    split
    · exact (t.setInfeed_settled _).trans (idle_settled _ _ _)
    · exact .refl t

theorem raiseRequests_settled (s : Coordinator) : s.Settled s.raiseRequests := by
  unfold raiseRequests
  exact s.modArbiter_settled _ (by intro _; exact ⟨rfl, rfl, rfl⟩)

theorem release_settled (s : Coordinator) (b : Bool) : s.Settled (s.release b) := by
  have h : s.Settled (s.modArbiter fun a => { a with grant := none, yield := a.yield || b }) :=
    s.modArbiter_settled _ (by intro _; exact ⟨rfl, rfl, rfl⟩)
  have k := h.trans (modCutter_settled _ (fun c => { c with holdOver := 0 }) (by intro _; exact ⟨rfl, rfl, rfl, rfl, rfl, rfl⟩))
  unfold release
  split
  · exact k
  · exact h

theorem grantDecision_settled (s : Coordinator) : s.Settled s.grantDecision := by
  unfold grantDecision
  split
  · split
    · exact s.modArbiter_settled _ (by intro _; exact ⟨rfl, rfl, rfl⟩)
    · exact .refl s
  · exact .refl s

theorem endGrant_settled (s : Coordinator) : s.Settled s.endGrant := by
  unfold endGrant
  repeat' split
  all_goals first
    | exact .refl s
    | exact s.release_settled _
    | exact s.modArbiter_settled _ (by intro _; exact ⟨rfl, rfl, rfl⟩)

theorem withdraw_settled (s : Coordinator) : s.Settled s.withdraw := by
  unfold withdraw
  repeat' split
  all_goals first | exact .refl s | exact s.release_settled _

theorem recheckLifter_settled (s : Coordinator) : s.Settled s.recheckLifter := by
  unfold recheckLifter
  split
  · split
    · exact .refl s
    · exact (s.setInfeed_settled _).trans ((idle_settled _ _ _).trans (release_settled _ _))
  · exact .refl s

theorem arbitrate_settled (s : Coordinator) : s.Settled s.arbitrate :=
  (s.recheckLifter_settled.trans (grantDecision_settled _)).trans
    ((recheckLifter_settled _).trans (grantDecision_settled _))

/-! ### Issuing -/

theorem clearMark_settled (s : Coordinator) (r : Role) : s.Settled (s.clearMark r) := by
  unfold clearMark
  split <;> first | exact s.setInfeed_settled _ | exact s.setTracker_settled _

theorem Lift_setClear_identity (l : Lift) (r : Role) (x : Progress) : (l.setClear r x).identity = l.identity := by
  unfold Lift.setClear; split <;> rfl

theorem told_settled (s : Coordinator) (o : Order) : s.Settled (s.told o) := by
  unfold told
  split
  · exact s.modLift_settled _ _ (by intro _; rfl)
  · exact (s.modLift_settled _ _ (by intro _; rfl)).trans (setInfeed_settled _ _)
  · exact s.modPile_settled _ _ (by intro _; rfl)
  · exact s.modPile_settled _ _ (by intro _; rfl)
  · exact s.modPile_settled _ _ (by intro _; rfl)
  · exact s.modLift_settled _ _ fun l => Lift_setClear_identity l _ _
  · exact s.modCutter_settled _ (by intro _; exact ⟨rfl, rfl, rfl, rfl, rfl, rfl⟩)
  · exact .refl s

theorem driven_settled (s : Coordinator) (o : Order) : s.Settled (s.driven o) := by
  unfold driven
  split
  · rename_i h _
    have k : s.Settled { s with arbiter := { s.arbiter with grant := some (h, .busy) } } :=
      s.modArbiter_settled (fun a => { a with grant := some (h, .busy) }) (by intro _; exact ⟨rfl, rfl, rfl⟩)
    dsimp only
    split
    · exact k.trans (modCutter_settled _ _ (by intro _; exact ⟨rfl, rfl, rfl, rfl, rfl, rfl⟩))
    · exact k
  · exact .refl s

theorem nextTag_free {s : Coordinator} {t : Fin 32} (h : s.nextTag = some t) : s.tags[t] = .free := by
  have := List.find?_some h
  simpa using this

theorem issue_settled (s : Coordinator) (o : Order) : s.Settled (s.issue o) := by
  unfold issue
  split
  · rename_i t a ht _
    have h1 : s.Settled (s.setTag t (.pending ⟨o, o.role.segment⟩ s.timing[o.deadlineEntry])) :=
      s.setTag_settled _ _ (nextTag_free ht)
    have h2 := (h1.trans (setMark_settled _ t.val)).trans (place_settled _ o.role.segment (orderFrame a t.val o))
    have h3 := h2.trans ((clearMark_settled _ o.role).trans ((told_settled _ o).trans (driven_settled _ o)))
    dsimp only
    split
    · exact h3.trans (modCutter_settled _ _ (by intro _; exact ⟨rfl, rfl, rfl, rfl, rfl, rfl⟩))
    · exact h3
  · exact .refl s

theorem serveOne_settled (s : Coordinator) (r : IssueRequest) : s.Settled (s.serveOne r) := by
  unfold serveOne
  split
  · have h := s.issue_settled r.first
    dsimp only
    split
    · exact (h.trans (issue_settled _ _)).trans (setRequests_settled _ _)
    · exact h.trans (setRequests_settled _ _)
  · exact .refl s

theorem serve_settled (s : Coordinator) : s.Settled s.serve := by
  have h : ∀ (rs : List IssueRequest) (t : Coordinator), t.Settled (rs.foldl serveOne t) := by
    intro rs
    induction rs with
    | nil => exact Settled.refl
    | cons r rs ih => exact fun t => (t.serveOne_settled r).trans (ih _)
  exact h _ s

theorem refreshList_settled (s : Coordinator) : s.Settled s.refreshList := s.setRequests_settled _

/-! ### The whole -/

theorem round_settled (s : Coordinator) : s.Settled s.round :=
  (advance_settled 48 s).trans <| (answerStopped_settled _).trans <| (raiseRequests_settled _).trans <|
    (endGrant_settled _).trans <| (withdraw_settled _).trans <| (arbitrate_settled _).trans <|
      (refreshList_settled _).trans (serve_settled _)

/-- What settling leaves as it was. -/
theorem settle_settled (s : Coordinator) : s.Settled s.settle := s.round_settled.trans (round_settled _)

/-- What the end of an event leaves as it was. -/
theorem finish_settled (s : Coordinator) : s.Settled s.finish :=
  s.placeIdles_settled.trans ((settle_settled _).trans (placeNotice_settled _))

end Coordinator

end Sys2Proof.Machine
end

