-- ==== Sys2Proof/Laws/Clock.lean ====
section
/-! SUPPORT. The expiry rows a tick queues change no recorded time: neither the hold-off's nor a spacing entry's, whatever the rows before them have started again. -/

namespace Sys2Proof.Machine

/-- An expiry that finds its interval run out exactly changes no recorded time. -/
theorem Spacing.expire_of_startOf {x : Spacing} {e : SpacingEntry} {n : Nat} (h : x.startOf e = some n) : x.expire e n = x := by
  cases x
  cases e <;> simp only [Spacing.startOf] at h <;> subst h <;> simp [Spacing.expire]

namespace Coordinator

/-- A spacing row that a tick queues names an entry whose interval runs out. -/
theorem runsOut_of_due {b : Coordinator} {e : SpacingEntry} (h : Instr.spacingExpiry e ∈ b.spacingDue) : b.runsOut e = true := by
  simp only [spacingDue, List.mem_filterMap, Option.map_eq_some_iff] at h
  obtain ⟨es, _, f, hf, he⟩ := h
  cases he
  exact List.find?_some hf

/-- A spacing row that a tick queues changes no recorded time. -/
theorem expire_of_due {b : Coordinator} {e : SpacingEntry} (h : Instr.spacingExpiry e ∈ b.spacingDue) :
    b.cutter.spacing.expire e b.timing[spacingNumber e] = b.cutter.spacing :=
  Spacing.expire_of_startOf (by simpa [runsOut] using runsOut_of_due h)

/-- A hold-off row that a tick queues changes no recorded time. -/
theorem since_of_holdOffDue {b : Coordinator} (h : Instr.holdOffExpiry ∈ b.notices.holdOffDue) :
    max b.notices.since b.notices.holdOff = b.notices.since := by
  unfold Notices.holdOffDue at h
  split at h
  · rename_i c
    simp only [Bool.and_eq_true, decide_eq_true_eq] at c
    omega
  · simp at h

/-- A row for Knife Cut issue comes before every other spacing row, and there is one at most. -/
theorem knifeIssue_first {b : Coordinator} {c : Instr} {rest : List Instr} (h : b.spacingDue = c :: rest) {e : SpacingEntry}
    (he : Instr.spacingExpiry e ∈ rest) : e ≠ .s7s ∧ e ≠ .s7l := by
  have key : ∀ e, Instr.spacingExpiry e ∈ spacingStarts.tail.filterMap (fun es => (es.find? b.runsOut).map .spacingExpiry) →
      e ≠ .s7s ∧ e ≠ .s7l := by
    intro e he
    simp only [List.mem_filterMap, Option.map_eq_some_iff] at he
    obtain ⟨es, hes, f, hf, hx⟩ := he
    cases hx
    have hm := List.mem_of_find?_eq_some hf
    constructor <;> rintro rfl <;> simp [spacingStarts] at hes <;> rcases hes with rfl | rfl | rfl | rfl | rfl | rfl <;> simp at hm
  have hs : b.spacingDue = (([SpacingEntry.s7s, .s7l].find? b.runsOut).map Instr.spacingExpiry).toList ++
      spacingStarts.tail.filterMap (fun es => (es.find? b.runsOut).map .spacingExpiry) := by
    unfold spacingDue
    rw [show spacingStarts = [.s7s, .s7l] :: spacingStarts.tail from rfl, List.filterMap_cons]
    cases ([SpacingEntry.s7s, .s7l].find? b.runsOut).map Instr.spacingExpiry <;> rfl
  rw [hs] at h
  cases hk : ([SpacingEntry.s7s, .s7l].find? b.runsOut).map Instr.spacingExpiry with
  | none =>
    rw [hk] at h
    simp only [Option.toList_none, List.nil_append] at h
    exact key e (h ▸ List.mem_cons_of_mem _ he)
  | some k =>
    rw [hk] at h
    simp only [Option.toList_some, List.cons_append, List.nil_append, List.cons.injEq] at h
    exact key e (h.2 ▸ he)

/-- Settling takes no start event but Knife Cut issue. -/
theorem finish_startOf (b : Coordinator) {e : SpacingEntry} (h1 : e ≠ .s7s) (h2 : e ≠ .s7l) :
    b.finish.cutter.spacing.startOf e = b.cutter.spacing.startOf e := by
  have h := (finish_settled b).spacing
  simp only [Spacing.mk.injEq] at h
  cases e <;> simp_all [Spacing.startOf]

/-- Nor does a spacing row change a recorded time after the rows that the same tick queued before it have settled. -/
theorem expire_after_row {b b' : Coordinator} {c : Instr} {rest : List Instr} (h : b.spacingDue = c :: rest) {e : SpacingEntry}
    (he : Instr.spacingExpiry e ∈ rest) (hs : b.Settled b') :
    b'.cutter.spacing.expire e b'.timing[spacingNumber e] = b'.cutter.spacing := by
  obtain ⟨h1, h2⟩ := knifeIssue_first h he
  have hr : b.runsOut e = true := runsOut_of_due (h ▸ List.mem_cons_of_mem _ he)
  apply Spacing.expire_of_startOf
  have hx := hs.spacing
  simp only [Spacing.mk.injEq] at hx
  rw [hs.timing]
  simp only [runsOut, beq_iff_eq] at hr
  rw [← hr]
  cases e <;> simp_all [Spacing.startOf]

end Coordinator

end Sys2Proof.Machine
end

