-- ==== Sys2Proof/Laws/Orders.lean ====
section
/-! SUPPORT. What is PENDING: the readings of the Order Table, and what an abandonment leaves. -/

namespace Sys2Proof.Machine

/-! ### Readings of what is PENDING -/

theorem Coordinator.mem_pendingOrders (s : Coordinator) (o : Order) : o ∈ s.pendingOrders ↔ s.hasPending o := by
  simp only [Coordinator.pendingOrders, List.mem_filterMap, Coordinator.hasPending]
  constructor
  · rintro ⟨x, hx, h⟩
    obtain ⟨i, hi, e⟩ := List.getElem_of_mem hx
    simp only [Vector.length_toList] at hi
    refine ⟨⟨i, hi⟩, ?_⟩
    simp only [Vector.getElem_toList] at e
    simpa [e] using h
  · rintro ⟨t, h⟩
    exact ⟨s.tags[t], by simp, h⟩

theorem Coordinator.busy_iff (s : Coordinator) (r : Role) : s.busy r = true ↔ ∃ o, s.hasPending o ∧ o.role = r := by
  simp [Coordinator.busy, Coordinator.mem_pendingOrders]

theorem Coordinator.liftBusy_iff (s : Coordinator) (i : Nat) : s.liftBusy i = true ↔ ∃ o, s.hasPending o ∧ o.lift = some i := by
  simp [Coordinator.liftBusy, Coordinator.mem_pendingOrders]

theorem Coordinator.knifePending_iff (s : Coordinator) : s.knifePending = true ↔ ∃ o, s.hasPending o ∧ o.kind = .knifeCut := by
  simp [Coordinator.knifePending, Coordinator.mem_pendingOrders]

theorem Coordinator.pressurePending_iff (s : Coordinator) (h : Hydraulic) :
    s.pressurePending h = true ↔ ∃ o, s.hasPending o ∧ o.hydraulic = some h := by
  simp [Coordinator.pressurePending, Coordinator.mem_pendingOrders]

/-- Outside RUN nobody wants an order. -/
theorem Coordinator.wanted_of_not_run (s : Coordinator) (h : s.sup.mode ≠ .run) : s.wanted = [] := by
  simp [Coordinator.wanted, h]

/-! ### The owner's effects of an order that ends without DONE leave the tags alone -/

@[simp] theorem Coordinator.hold_tags (s : Coordinator) (i : Nat) (c : HoldCause) : (s.hold i c).tags = s.tags := by
  unfold Coordinator.hold
  split
  · split <;> rfl
  · rfl

@[simp] theorem Coordinator.takeShort_tags (s : Coordinator) (i : Nat) : (s.takeShort i).tags = s.tags := by
  unfold Coordinator.takeShort
  dsimp only
  split <;> rfl

@[simp] theorem Coordinator.loseUnits_tags (s : Coordinator) (o : Order) : (s.loseUnits o).tags = s.tags := by
  unfold Coordinator.loseUnits
  split <;> rfl

@[simp] theorem Coordinator.orderLost_tags (s : Coordinator) (o : Order) (e : Ending) : (s.orderLost o e).tags = s.tags := by
  unfold Coordinator.orderLost
  cases o with
  | takeLift i h => simp only [Coordinator.loseUnits_tags]; split <;> simp
  | clampUp l =>
    cases l
    · simp only [Coordinator.loseUnits_tags]; split <;> simp
    · simp
  | gaugeHome => simp only [Coordinator.loseUnits_tags]; split <;> simp
  | _ => simp

/-! ### An abandonment -/

/-- One step of an abandonment quarantines its tag where it is PENDING and chosen, and leaves every tag else. -/
theorem Coordinator.abandon_tags (c : QuarantineCause) (e : Ending) (which : OrderRecord → Bool) (s : Coordinator) (t u : Fin 32) :
    (s.abandon c e which t).tags[u] =
      match s.tags[u] with
      | .pending r d => if u = t ∧ which r = true then .quarantined r c s.timing[20] else .pending r d
      | x => x := by
  unfold Coordinator.abandon
  by_cases hu : u = t
  · subst hu
    cases hs : s.tags[u] with
    | free => simp [hs]
    | quarantined r q n => simp [hs]
    | pending r d =>
      by_cases hw : which r = true
      · simp [hw, Coordinator.quarantine, Coordinator.setTag]
      · simp [hw, hs]
  · have hne : (t : Nat) ≠ u := fun h => hu (Fin.ext h.symm)
    cases hs : s.tags[t] with
    | free => simp [hu]; split <;> simp_all
    | quarantined r q n => simp [hu]; split <;> simp_all
    | pending r d =>
      by_cases hw : which r = true
      · simp [hw, hu, Coordinator.quarantine, Coordinator.setTag, Vector.getElem_set_ne, hne]; split <;> simp_all
      · simp [hw, hu]; split <;> simp_all

@[simp] theorem Coordinator.hold_timing (s : Coordinator) (i : Nat) (c : HoldCause) : (s.hold i c).timing = s.timing := by
  unfold Coordinator.hold
  split
  · split <;> rfl
  · rfl

@[simp] theorem Coordinator.takeShort_timing (s : Coordinator) (i : Nat) : (s.takeShort i).timing = s.timing := by
  unfold Coordinator.takeShort
  dsimp only
  split <;> rfl

@[simp] theorem Coordinator.loseUnits_timing (s : Coordinator) (o : Order) : (s.loseUnits o).timing = s.timing := by
  unfold Coordinator.loseUnits
  split <;> rfl

@[simp] theorem Coordinator.orderLost_timing (s : Coordinator) (o : Order) (e : Ending) : (s.orderLost o e).timing = s.timing := by
  unfold Coordinator.orderLost
  cases o with
  | takeLift i h => simp only [Coordinator.loseUnits_timing]; split <;> simp
  | clampUp l =>
    cases l
    · simp only [Coordinator.loseUnits_timing]; split <;> simp
    · simp
  | gaugeHome => simp only [Coordinator.loseUnits_timing]; split <;> simp
  | _ => simp

@[simp] theorem Coordinator.abandon_timing (c : QuarantineCause) (e : Ending) (which : OrderRecord → Bool) (s : Coordinator)
    (t : Fin 32) : (s.abandon c e which t).timing = s.timing := by
  unfold Coordinator.abandon
  split
  · split <;> simp [Coordinator.quarantine]
  · rfl

/-- An abandonment over some tags quarantines the chosen PENDING ones among them, and leaves every tag else. -/
theorem Coordinator.abandon_all_tags (c : QuarantineCause) (e : Ending) (which : OrderRecord → Bool) (l : List (Fin 32)) :
    ∀ (s : Coordinator) (u : Fin 32), (l.foldl (Coordinator.abandon c e which) s).tags[u] =
      match s.tags[u] with
      | .pending r d => if u ∈ l ∧ which r = true then .quarantined r c s.timing[20] else .pending r d
      | x => x := by
  induction l with
  | nil => intro s u; cases h : s.tags[u] <;> simp [h]
  | cons t l ih =>
    intro s u
    rw [List.foldl_cons, ih, Coordinator.abandon_tags]
    cases h : s.tags[u] with
    | free => simp
    | quarantined r q n => simp
    | pending r d =>
      by_cases hu : u = t <;> by_cases hw : which r = true <;> simp [hu, hw]

/-- After SAFE entry's abandonment nothing is PENDING (R114). -/
theorem Coordinator.abandonAll_quiet (s : Coordinator) : s.abandonAll.quiet := by
  intro t
  unfold Coordinator.abandonAll
  rw [Coordinator.abandon_all_tags]
  cases h : s.tags[t] <;> simp [allTags, Tag.pendingOrder]

end Sys2Proof.Machine
end

