-- ==== Sys2Proof/Laws/Requests.lean ====
section
/-! SUPPORT. Carrying out a request, receiving a frame at a port that is UP, and a CALL from a station that cannot be reached, said once. -/

namespace Sys2Proof.Machine

/-! ### Bytes -/

theorem byte_toNat {n : Nat} (h : n < 256) : (byte n).toNat = n := by
  simp [byte, BitVec.toNat_ofNat, Nat.mod_eq_of_lt h]

theorem nat2_be2 {n : Nat} (h : n < 65536) : nat2 (byte (n / 256)) (byte n) = n := by
  simp only [nat2, byte, BitVec.toNat_ofNat]; omega

theorem nat4_be4 {n : Nat} (h : n < 4294967296) :
    nat4 (byte (n / 16777216)) (byte (n / 65536)) (byte (n / 256)) (byte n) = n := by
  simp only [nat4, nat2, byte, BitVec.toNat_ofNat]; omega

/-! ### Requests -/

/-- Where the Agent can carry out its front request of kind k, it does. -/
theorem Coordinator.carryOut_of_asks {b : Coordinator} {code : Nat} {number : Byte} {args : List Byte} {src : Nat}
    {rest : List Frame} {k : RequestKind} (h : b.asks code number args src rest)
    (hk : RequestKind.ofCode (byte code).toNat = k) :
    b.carryOut k = afterRequest k ((b.behind rest).answered k (byte code) number args src) := by
  obtain ⟨f, ha, hp, hf, hr⟩ := h
  unfold Coordinator.carryOut Coordinator.frontRequest
  simp only [ha, hp, hf, hk, hr, Coordinator.behind, and_self, if_true]

/-- A request whose owner leaves the state `e` and answers r with data. -/
theorem Coordinator.answered_eq {b e : Coordinator} {k : RequestKind} {code : Nat} {number : Byte} {args : List Byte} {src : Nat}
    {r : Result} {data : List Byte} (h : handle k b args = (e, reply r data)) :
    b.answered k (byte code) number args src = e.answering src code number r data := by
  simp [Coordinator.answered, h, Coordinator.answering, Coordinator.place, reply]

/-- A request row is carried as stated where its owner answers as stated, for the kinds after which nothing else follows. -/
theorem carried_of {c : Instr} {k : RequestKind} {code : Nat} {args : List Byte} {cond : Coordinator → Prop}
    {effect : Coordinator → Coordinator} {r : Result} {data : Coordinator → List Byte}
    (hc : ∀ s, exec c s = .next { s with blk := s.blk.carryOut k }) (hk : RequestKind.ofCode (byte code).toNat = k)
    (ha : afterRequest k = id)
    (hh : ∀ b, cond b → ∀ rest, handle k (b.behind rest) args = (effect (b.behind rest), reply r (data (b.behind rest)))) :
    carried c code args cond effect r data := by
  intro s number src rest h hcond
  unfold completes
  rw [hc, Coordinator.carryOut_of_asks h hk, ha, Coordinator.answered_eq (hh _ hcond rest)]
  rfl

/-- The same for the kinds after which the blocks settle. -/
theorem carriedThen_of {c : Instr} {k : RequestKind} {code : Nat} {args : List Byte} {cond : Coordinator → Prop}
    {effect : Coordinator → Coordinator} {r : Result} {data : Coordinator → List Byte}
    (hc : ∀ s, exec c s = .next { s with blk := s.blk.carryOut k }) (hk : RequestKind.ofCode (byte code).toNat = k)
    (ha : afterRequest k = Coordinator.finish)
    (hh : ∀ b, cond b → ∀ rest, handle k (b.behind rest) args = (effect (b.behind rest), reply r (data (b.behind rest)))) :
    carriedThen c code args cond effect r data := by
  intro s number src rest h hcond
  unfold completes
  rw [hc, Coordinator.carryOut_of_asks h hk, ha, Coordinator.answered_eq (hh _ hcond rest)]

/-! ### The part behind a request reads as before it -/

variable (b : Coordinator) (rest : List Frame)

@[simp] theorem Coordinator.behind_slots : (b.behind rest).slots = b.slots := rfl
@[simp] theorem Coordinator.behind_lifts : (b.behind rest).lifts = b.lifts := rfl
@[simp] theorem Coordinator.behind_piles : (b.behind rest).piles = b.piles := rfl
@[simp] theorem Coordinator.behind_tags : (b.behind rest).tags = b.tags := rfl
@[simp] theorem Coordinator.behind_sup : (b.behind rest).sup = b.sup := rfl
@[simp] theorem Coordinator.behind_inputs : (b.behind rest).inputs = b.inputs := rfl
@[simp] theorem Coordinator.behind_roles : (b.behind rest).roles = b.roles := rfl
@[simp] theorem Coordinator.behind_routes : (b.behind rest).routes = b.routes := rfl
@[simp] theorem Coordinator.behind_timing : (b.behind rest).timing = b.timing := rfl
@[simp] theorem Coordinator.behind_arbiter : (b.behind rest).arbiter = b.arbiter := rfl
@[simp] theorem Coordinator.behind_cutter : (b.behind rest).cutter = b.cutter := rfl
@[simp] theorem Coordinator.behind_orders : (b.behind rest).orders = b.orders := rfl
@[simp] theorem Coordinator.behind_notices : (b.behind rest).notices = b.notices := rfl
@[simp] theorem Coordinator.behind_west : (b.behind rest).west = b.west := rfl
@[simp] theorem Coordinator.behind_east : (b.behind rest).east = b.east := rfl
@[simp] theorem Coordinator.behind_lineTime : (b.behind rest).lineTime = b.lineTime := rfl
@[simp] theorem Coordinator.behind_lift? (i : Nat) : (b.behind rest).lift? i = b.lift? i := rfl
@[simp] theorem Coordinator.behind_slotBody (n : Nat) : (b.behind rest).slotBody n = b.slotBody n := rfl
@[simp] theorem Coordinator.behind_slot? (n : Byte) : (b.behind rest).slot? n = b.slot? n := rfl

/-! ### Frames -/

/-- A frame with a good check that is no HELLO, at a port that is UP. -/
theorem Coordinator.receiveGood_up {s : Coordinator} {p : Port} {f : Frame} (hu : (s.link p).isUp = true)
    (hl : f.payload.length ≤ 48) (hk : f.kind ≠ kindHello) : s.receiveGood p f = (s.heard p).route p f := by
  have e : (s.link p).state = .up := by simpa [Link.isUp] using hu
  simp [Coordinator.receiveGood, Config.maxPayload, Nat.not_lt.mpr hl, e, hk, Coordinator.heard]

/-- A station's frame for the Coordinator alone passes the screens. -/
theorem filtered_delivers {b : Coordinator} {p : Port} {d src : Byte} (h : b.delivers p d src) {k : Byte}
    (hk : classified k = true) (payload : List Byte) : filtered ⟨d, src, k, payload⟩ = false := by
  obtain ⟨_, h1, h2, h3⟩ := h
  simp [filtered, badSource, frameFrom, frameTo, h1, h2, h3, hk]

/-- A REPORT for the Coordinator alone reaches the Order Table. -/
theorem Coordinator.receive_report {b : Coordinator} {p : Port} {d src : Byte} {payload : List Byte} (h : b.delivers p d src)
    (hl : payload.length ≤ 48) :
    b.receiveGood p ⟨d, src, kindReport, payload⟩ = (b.consumed p).takeReport (addressOf src) payload := by
  have hf := filtered_delivers h (k := kindReport) (by decide) payload
  rw [Coordinator.receiveGood_up h.1 hl (by show kindReport ≠ kindHello; decide)]
  unfold Coordinator.route
  rw [hf]
  simp [Coordinator.byDestination, frameTo, h.2.1, frameFrom, Coordinator.consumed, kindReport, kindRequest]

/-- An EVENT for the Coordinator alone is delivered or discarded. -/
theorem Coordinator.receive_event {b : Coordinator} {p : Port} {d src : Byte} {payload : List Byte} (h : b.delivers p d src)
    (hl : payload.length ≤ 48) :
    b.receiveGood p ⟨d, src, kindEvent, payload⟩ = (b.consumed p).takeEvent (addressOf src) payload := by
  have hf := filtered_delivers h (k := kindEvent) (by decide) payload
  rw [Coordinator.receiveGood_up h.1 hl (by show kindEvent ≠ kindHello; decide)]
  unfold Coordinator.route
  rw [hf]
  simp [Coordinator.byDestination, frameTo, h.2.1, frameFrom, Coordinator.consumed, kindReport, kindRequest, kindEvent]

/-! ### A station that cannot be reached -/

/-- When a station can be reached. -/
theorem Coordinator.reachable_iff (s : Coordinator) (r : Role) : s.reachable r = true ↔
    ∃ a, s.roles.get r = some a ∧ s.portOf a = some r.segment ∧ (s.link r.segment).state = .up := by
  unfold Coordinator.reachable
  cases s.roles.get r <;> simp [Link.isUp]

/-- The CALL of a station that cannot be reached is settled by an Idle of some reason, and one free value is drawn. -/
theorem Coordinator.strand_eq (s : Coordinator) (r : Role) :
    ∃ x, s.strand r = ({ s with draws := s.draws + 1 }).idle r x := ⟨_, rfl⟩

/-! ### The records of the reads, as Safety spells them -/

theorem bitsByte_eq_bits3 (a b c : Bool) : bitsByte [a, b, c] = bits [a, b, c] := by cases a <;> cases b <;> cases c <;> rfl

theorem bitsByte_eq_bits4 (a b c d : Bool) : bitsByte [a, b, c, d] = bits [a, b, c, d] := by
  cases a <;> cases b <;> cases c <;> cases d <;> rfl

theorem bitsByte_eq_bits6 (a b c d e f : Bool) : bitsByte [a, b, c, d, e, f] = bits [a, b, c, d, e, f] := by
  cases a <;> cases b <;> cases c <;> cases d <;> cases e <;> cases f <;> rfl

theorem beInt2_eq (i : Int) : beInt2 i = be2 (i % 65536).toNat := by simp [beInt2, BitVec.toNat_ofInt]

theorem liftRecord_eq_layout (l : Lift) (place : Nat) : liftRecord l place = l.layout place := by
  rcases l with ⟨id, slot, st, pos, d, pr, th, m, o, si, rr, un, ch, cm⟩
  rcases pr with _ | ⟨u, v⟩ <;> cases m <;> cases ch <;>
    simp [liftRecord, Lift.layout, liftPresence, bitsByte_eq_bits6, pairBytes, beInt2_eq, flagByte, bit, be2, byte] <;>
    cases st with
    | held c => cases c <;> first | rfl | exact ⟨rfl, rfl⟩
    | _ => first | rfl | exact ⟨rfl, rfl⟩

theorem pileRecord_eq_layout (p : Pile) : pileRecord p = p.layout := by
  rcases p with ⟨id, st, pos, f, d, r, t, h, mv, cl⟩
  rcases mv with _ | ⟨u, v⟩ <;> simp [pileRecord, Pile.layout, pilePresence, bitsByte_eq_bits3, pairBytes, flagByte, bit, byte]

theorem recordBytes_eq_layout (r : OrderRecord) : recordBytes r = r.layout := by
  rcases r with ⟨o, p⟩
  cases o <;> cases p <;> rfl

theorem lineStatus_eq_layout (b : Coordinator) : lineStatus b = b.lineLayout := by
  unfold lineStatus Coordinator.lineLayout
  have hd : deferredCode b.sup.deferred = (b.sup.deferred.map ModeCause.code).getD 255 := by cases b.sup.deferred <;> rfl
  rw [hd, bitsByte_eq_bits4]
  cases b.arbiter.grant <;> cases b.cutter.gauge <;>
    simp [Coordinator.pendingTags, Coordinator.quarantinedTags, causeField, flagByte, bit, byte, be4]

theorem portStatus_eq_layout (l : Link) : portStatus l = l.layout := by
  simp [portStatus, Link.layout, portCounterBytes]

/-! ### Request rows and slots -/

/-- The row of a kind carries out the Agent's front request as one of that kind. -/
theorem requestRow_eq (k : Nat) (s : State) :
    exec (requestRow k) s = .next { s with blk := s.blk.carryOut (RequestKind.ofCode k) } := by
  by_cases h : k < 36
  · interval_cases k <;> rfl
  · have h1 : requestRow k = .requestKindUnknown := by
      unfold requestRow; rw [List.getElem?_eq_none (by simp; omega)]; rfl
    have h2 : RequestKind.ofCode k = .unknown := by
      unfold RequestKind.ofCode
      split <;> first | rfl | omega
    rw [h1, h2]; rfl

/-- The law of the slots reads their bodies alone. -/
theorem slotLaw_of_bodies {b b' : Coordinator} (h : b'.slots.map Slot.body = b.slots.map Slot.body) (hb : b.slotLaw) : b'.slotLaw := by
  intro n
  have := congrArg (fun v => v[n]) h
  simp only [Vector.getElem_map, Fin.getElem_fin] at this
  show b'.slots[n.val].body.law
  rw [this]
  exact hb n

end Sys2Proof.Machine
end

