-- ==== Sys2Proof/Tests/Slice0.lean ====
section
/-! SUPPORT. Small tests: what the check of commands refuses, the frame check, some single steps, and for every statement a state that meets its hypotheses. -/

namespace Sys2Proof.Tests

/-! The kernel's evaluations are made one after another: each on a thread of its own would take too much memory. -/

set_option Elab.async false

open Sys2Proof Sys2Proof.Machine

/-! ### Small states -/

/-- A port that carries traffic. -/
def upLink : Link := { Link.reset with state := .up }

/-- Stations on their segments: WEST 2 to 4, EAST 10 to 13. -/
def route (a : Nat) : Route := if 1 ≤ a ∧ a ≤ 4 then .west else if 10 ≤ a ∧ a ≤ 13 then .east else .none

/-- The line in RUN, both ports UP, every role assigned and routed, the cutter raised. -/
def up : Coordinator :=
  { Coordinator.resetWith ⟨false, false, false, true⟩ 0 with
    west := upLink
    east := upLink
    roles := ⟨1, some 2, some 3, some 4, some 10, some 11, some 12, some 13⟩
    routes := Vector.ofFn fun i => route i.val
    sup := { Supervisor.reset with mode := .run, safeOutput := false }
    cutter := { Cutter.reset with clamp := .up, knife := .top, gauge := .known 165000, rotator := .ready, recovery := .clear } }

/-- The same in another mode. -/
def inMode (m : Mode) : Coordinator := { up with sup := { up.sup with mode := m, safeOutput := m == .safe } }

/-- An order PENDING on a tag. -/
def pendingOn (b : Coordinator) (i : Fin 32) (o : Order) : Coordinator := b.setTag i (.pending ⟨o, o.role.segment⟩ 100)

/-- An order QUARANTINED on a tag. -/
def quarantinedOn (b : Coordinator) (i : Fin 32) (o : Order) : Coordinator :=
  b.setTag i (.quarantined ⟨o, o.role.segment⟩ .deadline 100)

/-- A request at the front of the Agent's queue. -/
def asking (b : Coordinator) (code : Nat) (args : List Byte) : Coordinator :=
  { b with agent := [⟨63, 1, kindRequest, byte code :: 0 :: args⟩] }

/-- Some program steps of each kind. -/
def steps : List Step := [.strip 90000 1000 3 2 true, .cut 2500 1 false, .rotate .a90, .pause]

/-- A header for so many steps. -/
def header (n : Nat) : Header := ⟨n, .a0, 1, 200, 1650⟩

/-- Slot 0 with a body. -/
def holding (b : Coordinator) (x : SlotBody) (uses : Nat) : Coordinator := { b with slots := b.slots.set 0 ⟨x, uses⟩ }

/-- A lift of the program in slot 0. -/
def lift (id : Nat) (st : LiftState) (p : Position) : Lift := { Lift.admitted id 0 500 with state := st, position := p }

/-- The four steps as Program Close stores them. -/
def program : SlotBody := .ready (header 4) (crc (steps.flatMap stepRecord)).toNat steps

/-- The line with some lifts of the program in slot 0. -/
def lifting (ls : List Lift) : Coordinator := { holding up program ls.length with lifts := ls }

/-- A pile on the platform with a budget left. -/
def feeding (n : Nat) : Pile := { Pile.newlyDeclared 7 false n with state := .feeding, position := .lifter }

/-! ### Which commands are well formed: one ill-formed command for each check -/

theorem test_request_to_another_node : (Instr.requestReceived .west 5 1 [1, 0]).wellFormed = false := by decide
theorem test_request_from_no_node : (Instr.requestReceived .west 63 64 [1, 0]).wellFormed = false := by decide
theorem test_done_of_wrong_length : (Instr.reportDone .west 63 4 0 9 [1]).wellFormed = false := by decide
theorem test_fault_of_no_kind : (Instr.reportFault .east 63 11 0 4 8).wellFormed = false := by decide
theorem test_abandoned_from_the_part : (Instr.reportAbandoned .east 63 63 0 4).wellFormed = false := by decide
theorem test_ready_from_broadcast : (Instr.ready .west 63 0).wellFormed = false := by decide
theorem test_call_from_broadcast : (Instr.call .west 63 0).wellFormed = false := by decide
theorem test_attention_from_broadcast : (Instr.attention .west 63 0 1).wellFormed = false := by decide
theorem test_manual_too_long : (Instr.manualReceived .west 10 1 (List.replicate 49 0)).wellFormed = false := by decide
theorem test_data_too_long : (Instr.dataReceived .west 10 1 (List.replicate 49 0)).wellFormed = false := by decide
theorem test_data_is_not_filtered : (Instr.frameFiltered .west ⟨10, 1, 9, []⟩).wellFormed = false := by decide
theorem test_good_frame_is_not_bad :
    (Instr.frameBadCheck .west (frameWire ⟨63, 1, 2, [10, 0]⟩)).wellFormed = false := by decide +kernel
theorem test_good_hello_is_no_discard : (Instr.earlyFrameDiscard .west (.good ⟨0, 0, 1, [2, 0]⟩)).wellFormed = false := by decide
theorem test_hello_of_three : (Instr.helloReceived .west 0 0 [3, 0]).wellFormed = false := by decide
theorem test_ready_is_not_discarded : (Instr.eventDiscarded .west 63 2 [1]).wellFormed = false := by decide
theorem test_abandoned_is_no_malformed_report : (Instr.reportMalformed .west 63 2 [0, 1, 3]).wellFormed = false := by decide
theorem test_row_without_operands_is_well_formed : Instr.lineReset.wellFormed = true := by decide

/-! ### Bytes and checks -/

/-- The CRC of the nine characters 1 to 9 (spec/00, Frame check). -/
theorem test_crc_of_the_digits : crc [0x31, 0x32, 0x33, 0x34, 0x35, 0x36, 0x37, 0x38, 0x39] = 0x29B1#16 := by decide +kernel

/-- The order check of a Knife Cut with release-after on tag 14: 14 xor 4 xor 1 (R105). -/
theorem test_order_check_of_a_knife_cut : orderPayload 14 (.knifeCut 1 true) = [14, 4, 1, 11] := by decide

/-- A frame that is sent is received as it was. -/
theorem test_frame_comes_through : receive (frameWire ⟨63, 1, 2, [10, 0]⟩) = .good ⟨63, 1, 2, [10, 0]⟩ := by decide +kernel

/-- No row gives bits, so no word spells a command. -/
theorem test_no_word_spells_a_command (n w : Nat) : decodeTableWord n w = none := rfl

/-! ### Single steps -/

/-- Resume Line from HOLD answers OK and enters RUN. -/
theorem test_resume_line : ∃ t, exec .resumeLine ⟨asking (inMode .hold) 27 [], []⟩ = .next t ∧
    t.blk.sup.mode = .run ∧ t.blk.west.sending.map OwnFrame.frame = some ⟨1, 63, 3, [27, 0, 0]⟩ :=
  ⟨_, rfl, by decide +kernel, by decide +kernel⟩

/-- A lift WAITING, a FEEDING pile and a CALL: the LIFTER is given the grant and the Take Lift. -/
theorem test_call_takes_a_lift : ∃ t, exec (.call .west 63 3)
      ⟨{ lifting [lift 5 .waiting .none] with piles := [feeding 2] }, []⟩ = .next t ∧
    t.blk.tags[0] = .pending ⟨.takeLift 5 500, .west⟩ 20000 ∧ t.blk.arbiter.grant = some (.lifter, .busy) :=
  ⟨_, rfl, by decide +kernel, by decide +kernel⟩

/-- The deadline of a Knife Cut takes the line to SAFE. -/
theorem test_knife_deadline_enters_safe : ∃ t, exec (.deadlinePass 3) ⟨pendingOn up 3 (.knifeCut 1 true), []⟩ = .next t ∧
    t.blk.sup.mode = .safe ∧ t.blk.sup.cause = .deadline ∧ t.blk.cutter.knife = .unknown :=
  ⟨_, rfl, by decide +kernel, by decide +kernel, by decide +kernel⟩

/-! ### Witnesses: for each statement, states that meet the hypotheses of its clauses -/

/-- A request in front of the Agent, with room for its ANSWER, is asked; the requests and modes below put one there. -/
theorem witness_asks (b : Coordinator) (h : b.west.roomFor 1 = true) (code : Nat) (args : List Byte) :
    (asking b code args).asks code 0 args 1 [] := ⟨_, rfl, rfl, rfl, h⟩

theorem witness_up_has_room : up.west.roomFor 1 = true ∧ (inMode .safe).west.roomFor 1 = true := by decide

/-- Nothing is PENDING on the line. -/
theorem up_quiet (m : Mode) : (inMode m).quiet := by unfold Coordinator.quiet; cases m <;> decide +kernel

theorem quiet_has_none {b : Coordinator} (h : b.quiet) : ¬ ∃ o, b.hasPending o := by
  rintro ⟨o, t, ht⟩
  rw [h t] at ht
  cases ht

theorem witness_tick : let b := quarantinedOn (b := pendingOn up 1 .gaugeHome) 2 .gaugeHome
    b.tags[(0 : Fin 32)] = .free ∧ b.tags[(1 : Fin 32)] = .pending ⟨.gaugeHome, .east⟩ 100 ∧
    b.tags[(2 : Fin 32)] = .quarantined ⟨.gaugeHome, .east⟩ .deadline 100 ∧ b.sup.running = false ∧
    { b.sup with running := true }.running = true := by decide +kernel

theorem witness_estop : let b := pendingOn { up with lifts := [lift 5 .working .cutter] } 0 (.knifeCut 5 true)
    b.inputs.estop = false ∧ b.sup.mode ≠ .safe ∧ b.hasPending (.knifeCut 5 true) ∧
    b.lift? 5 = some (lift 5 .working .cutter) ∧ (inMode .safe).sup.mode = .safe := by
  dsimp only [Coordinator.delivers, Coordinator.reports, Coordinator.hasPending]
  decide +kernel

theorem witness_curtain :
    up.inputs.curtain = false ∧ up.sup.mode ≠ .safe ∧ (pendingOn up 0 (.rotate 5 .a90)).hasPending (.rotate 5 .a90) ∧
    { up.cutter with clamp := .down }.clamp ≠ .up ∧ up.cutter.clamp = .up ∧
    (∀ o, up.hasPending o → o.role ≠ .press ∧ o.role ≠ .rotator) :=
  ⟨by decide, by decide, ⟨0, by decide +kernel⟩, by decide, by decide, fun o h => absurd ⟨o, h⟩ (quiet_has_none (up_quiet .run))⟩

theorem witness_door : up.inputs.door = false ∧ up.sup.mode = .run ∧ up.knifePending = false ∧
    (pendingOn up 31 (.knifeCut 5 false)).knifePending = true ∧ up.sup.deferred = none ∧ (inMode .hold).sup.mode ≠ .run := by
  decide +kernel

theorem witness_press_ok : up.inputs.pressOk = true ∧ up.arbiter.grant = none ∧
    { up with inputs := ⟨false, false, false, false⟩ }.inputs.pressOk = false ∧ up.sup.mode = .run ∧
    List.Perm up.arbiter.priority [.press, .turner, .lifter] ∧ (pendingOn up 0 (.clampUp none)).pressurePending .press = true := by
  decide +kernel

theorem witness_delivers : up.delivers .west 63 1 ∧ up.delivers .east 127 75 ∧ addressOf 1 = up.roles.cell ∧
    addressOf 75 ≠ up.roles.cell ∧ up.agent.length < 4 ∧ 4 ≤ (List.replicate 4 (⟨63, 1, 2, [10, 0]⟩ : Frame)).length ∧
    up.west.own.length < 24 ∧ 24 ≤ (List.replicate 24 (⟨haltFrame, false⟩ : OwnFrame)).length := by
  dsimp only [Coordinator.delivers, Coordinator.reports, Coordinator.hasPending]
  decide +kernel

theorem witness_report : let b := pendingOn up 31 (.clampUp none)
    b.delivers .east 63 11 ∧ b.tags[(31 : Fin 32)] = .pending ⟨.clampUp none, .east⟩ 100 ∧
    b.reports 11 31 5 31 ⟨.clampUp none, .east⟩ ∧ doneLength 5 = 0 ∧ (inMode .hold).sup.mode ≠ .run ∧
    (4 : Byte) = byte FaultKind.position.code ∧ FaultKind.position ≠ .deadline := by
  dsimp only [Coordinator.delivers, Coordinator.reports, Coordinator.hasPending]
  decide +kernel

theorem witness_take_done : let b := pendingOn { up with piles := [feeding 1], lifts := [lift 5 .working .lifter] } 0 (.takeLift 5 500)
    b.reports 3 0 10 0 ⟨.takeLift 5 500, .west⟩ ∧ b.pileIn .feeding = some (feeding 1) ∧ 1 ≤ (feeding 1).remaining ∧
    (feeding 1).remaining = 1 ∧ (feeding 255).remaining ≠ 1 := by
  dsimp only [Coordinator.delivers, Coordinator.reports, Coordinator.hasPending]
  decide +kernel

theorem witness_align_done : let b := pendingOn (lifting [lift 5 .working .jogger]) 0 (.align 5 1)
    b.reports 4 0 9 0 ⟨.align 5 1, .west⟩ ∧ lift 5 .working .jogger ∈ b.lifts ∧ (b.lifts.map Lift.id).Nodup ∧
    (nat2 0x06 0x72 = 1650 ∧ int2 0xFE 0x0C = -500 ∧ int2 0x01 0xF4 = 500 ∧ nat2 0x01 0xF4 = 500) ∧
    b.skewLimitOf (lift 5 .working .jogger) < 500 ∧ ¬ (50 ≤ nat2 0 49) := by
  dsimp only [Coordinator.delivers, Coordinator.reports, Coordinator.hasPending]
  decide +kernel

theorem witness_quarantined_report : let b := quarantinedOn up 0 (.discharge 5)
    b.delivers .east 63 13 ∧ b.tags[(0 : Fin 32)] = .quarantined ⟨.discharge 5, .east⟩ .deadline 100 ∧
    b.reports 13 0 14 0 ⟨.discharge 5, .east⟩ ∧ doneLength 14 = 0 := by
  dsimp only [Coordinator.delivers, Coordinator.reports, Coordinator.hasPending]
  decide +kernel

theorem witness_stale : let b := pendingOn up 1 (.discharge 5)
    b.tags[(0 : Fin 32)] = .free ∧ b.tags[(1 : Fin 32)].record = some ⟨.discharge 5, .east⟩ ∧
    b.roles.get (Order.discharge 5).role ≠ some (addressOf 12) ∧ (4 : Byte) ≠ byte (Order.discharge 5).kind.code ∧
    reportFits [] = false ∧ reportFits [0, 4, 4] = false ∧ reportFits [0, 4, 2, 8] = false := by decide +kernel

theorem witness_ready : up.roles.roleOf (addressOf 2) = some .turner ∧ up.roles.roleOf (addressOf 3) = some .lifter ∧
    up.roles.roleOf (addressOf 4) = some .jogger ∧ up.roles.roleOf (addressOf 10) = some .gauge ∧
    up.roles.roleOf (addressOf 11) = some .press ∧ up.roles.roleOf (addressOf 12) = some .rotator ∧
    up.roles.roleOf (addressOf 13) = some .outfeed ∧ up.busy .rotator = false ∧
    (pendingOn up 0 (.rotate 5 .a90)).busy .rotator = true := by decide +kernel

/-- The CALL clauses of the LIFTER: STOPPED, no pile, an EMPTY one, no lift, a busy position, a lift to take. -/
theorem witness_lifter_call : (inMode .hold).sup.mode ≠ .run ∧ up.infeed.lifterCall = false ∧ up.piles = [] ∧
    { feeding 0 with state := .empty }.state = .empty ∧ (lifting []).lifts = [] ∧
    (lifting [lift 5 .waiting .none]).posEntry .lifter = .free ∧ (lifting [lift 5 .waiting .none]).busy .lifter = false ∧
    (lifting [lift 5 .waiting .none, lift 6 .ready .lifter]).posEntry .lifter ≠ .free ∧
    (lifting [lift 5 .working .lifter]).liftBusy 5 = false := by decide +kernel

/-- The CALL clauses of the TURNER. -/
theorem witness_turner_call : up.infeed.turnerCall = false ∧ up.turnerHeld = false ∧ up.platformHeld = false ∧
    up.busy .turner = false ∧ up.busy .lifter = false ∧ 2 ≤ up.freeTags ∧
    { up with piles := [{ feeding 1 with state := .turned }] }.turnerHeld = true ∧
    { up with piles := [feeding 1] }.platformHeld = true ∧ (Pile.newlyDeclared 1 false 1).state = .declared := by decide +kernel

theorem witness_attention : up.roles.roleOf (addressOf 11) = some .press ∧ Role.press ≠ .cell ∧ up.notices.attention = none ∧
    (4 : Byte).toNat ∉ [1, 2, 3] := by decide +kernel

theorem witness_data : up.link .west = upLink ∧ upLink.isUp = true ∧ addressOf 0x40 = 0 ∧ up.portOf 10 = some .east ∧
    up.portOf 9 = none ∧ up.portOf 3 = some .west ∧ upLink.forward.length < 16 ∧
    16 ≤ (List.replicate 16 (⟨haltFrame, .west⟩ : ForwardedFrame)).length ∧ Link.reset.isUp = false := by decide +kernel

theorem witness_manual : (inMode .setup).sup.mode = .setup ∧ addressOf 1 = (inMode .setup).roles.cell ∧
    (inMode .setup).roles.get .gauge = some (addressOf 10) ∧ (inMode .setup).portOf (addressOf 10) = some .east ∧
    (∀ r ∈ [Role.gauge, Role.press, Role.rotator], (inMode .setup).roles.get r ≠ some (addressOf 13)) ∧ up.sup.mode ≠ .setup := by
  decide +kernel

theorem witness_screens : addressOf 64 = 0 ∧ addressOf 63 = 63 ∧ (3 : Byte).toNat ∉ [2, 6, 7, 8, 9] ∧ addressOf 5 ≠ 63 ∧
    ([1, 2, 3, 4, 5] : List Byte).length < 6 ∧ 48 < (49 : Byte).toNat ∧
    { upLink with badRun := 14 }.badRun < 15 ∧ 15 ≤ { upLink with badRun := 15 }.badRun := by decide

theorem witness_hello : (2 : Byte).toNat ≤ 2 ∧ { upLink with state := .verify, hellos := 1 }.state = .verify ∧
    1 ≤ { upLink with state := .verify, hellos := 1 }.hellos ∧ { upLink with state := .verify }.hellos = 0 ∧
    ([3, 0] : List Byte).length = 2 ∧ 2 < (3 : Byte).toNat ∧ Link.reset.state = .down := by decide

theorem witness_lock : upLink.state = .up ∧ upLink.active.lockIgnore = false ∧ Link.reset.state ≠ .up := by decide

/-- The cases of the transmitter: HALT, HELLO, a forwarded frame, an own frame, none, and the end of a retrain. -/
theorem witness_transmit : let f : OwnFrame := ⟨haltFrame, true⟩
    { upLink with sending := some f }.sending = some f ∧ { upLink with halt := true }.halt = true ∧
    { upLink with helloAnswer := true }.helloAnswer = true ∧ upLink.own = [] ∧ upLink.forward = [] ∧
    4 ≤ { upLink with burst := 4 }.burst ∧ { upLink with burst := 3 }.burst < 4 ∧ upLink.retrain = false ∧
    { upLink with retrain := true }.retrain = true ∧ f.answerOfRetrain = true := by decide +kernel

/-- The WEST queue full, with a request of three kinds waiting behind it, which its row carries out once a frame has left. -/
theorem witness_request_waits (q : List ForwardedFrame) : ∀ code ∈ [10, 31, 99],
    let l := { upLink with own := List.replicate 24 ⟨haltFrame, false⟩, forward := q, sending := some ⟨haltFrame, false⟩, burst := 3 }
    let s := asking { up with west := l } code []
    l.own.length = 24 ∧ l.retrain = false ∧ l.halt = false ∧ l.helloAnswer = false ∧ l.burst < 4 ∧
    s.agent = [⟨63, 1, kindRequest, [byte code, 0]⟩] ∧ requestRow 10 = .readLine ∧
    ∀ u : Coordinator, ∃ b, completes (requestRow (byte code).toNat) ⟨u, []⟩ b := by
  intro code hc
  simp only [List.mem_cons, List.not_mem_nil, or_false] at hc
  rcases hc with rfl | rfl | rfl <;> exact ⟨rfl, rfl, rfl, rfl, (by decide : 3 < 4), rfl, rfl, fun u => ⟨_, rfl⟩⟩

theorem witness_deadline : (pendingOn up 3 (.knifeCut 5 true)).tags[(3 : Fin 32)] = .pending ⟨.knifeCut 5 true, .east⟩ 100 ∧
    (Order.knifeCut 5 true).role = .press ∧ (Order.discharge 5).role ≠ .press ∧ up.orders.firstFault = none ∧
    (inMode .safe).sup.mode = .safe := by decide +kernel

theorem witness_spacing : up.cutter.spacing = ⟨none, none, none, none, none, none, none⟩ := by decide

theorem witness_watchdog : up.sup.running = false ∧ { up.sup with running := true, failures := 1 }.running = true ∧
    up.sup.escalation ≤ 1 + 1 ∧ up.sup.failures + 1 < up.sup.escalation ∧ up.knifePending = false := by decide +kernel

theorem witness_notice : up.notices.due = true ∧ up.notices.holdOff ≤ up.notices.since ∧ up.west.state = .up ∧
    { up.notices with since := 49 }.since < up.notices.holdOff ∧ Link.reset.state ≠ .up := by decide

theorem witness_idle : let w : WaitingIdle := ⟨.noLift, .west, 3⟩
    { up with infeed := { up.infeed with lifterIdle := some w } }.infeed.lifterIdle = some w ∧ up.infeed.turnerIdle = none ∧
    (up.link .west).own.length < 24 := by decide

/-- A Discharge is wanted, can be served, and tag 0 is the one after the mark. -/
theorem witness_issue : let b := lifting [lift 5 .working .outfeed]
    (⟨.discharge 5, none⟩ : IssueRequest) ∈ b.wanted ∧ b.sup.mode = .run ∧ b.roles.get .outfeed = some 13 ∧
    b.portOf 13 = some .east ∧ b.busy .outfeed = false ∧ (Order.discharge 5).hydraulic = none ∧
    b.tags[(0 : Fin 32)] = .free ∧ ((0 + 31 - b.orders.mark % 32) % 32) = 0 := by decide +kernel

/-- The Program Store: slots EMPTY, LOADING and READY, in use and not, and values at the ends of their ranges. -/
theorem witness_programs : (up.slotBody 15).code = 0 ∧ ((holding up (.loading (header 4) (steps.map some)) 0).slotBody 0).code = 1 ∧
    ((holding up (.ready (header 4) 0 steps) 1).slotBody 0).code = 2 ∧ (holding up (.ready (header 4) 0 steps) 1).useOf 0 = 1 ∧
    (holding up (.ready (header 4) 0 steps) 0).useOf 0 = 0 ∧ Angle.a270.degrees = 270 := by decide +kernel

theorem witness_step_write : (Step.cut 165000 4 true).writtenAs 1 165000 0 0 4 1 0 ∧
    (Step.strip 2500 100 2 1 false).writtenAs 2 2500 100 2 1 0 0 ∧ (Step.rotate .a270).writtenAs 3 0 0 0 0 0 270 ∧
    Step.pause.writtenAs 4 0 0 0 0 0 0 := by simp [Step.writtenAs, Angle.degrees]

theorem witness_no_step_write : ¬ ∃ st : Step, st.writtenAs 1 2499 0 0 1 0 0 := by
  rintro ⟨st, h⟩
  cases st <;> simp [Step.writtenAs] at h

theorem witness_close : steps.length = (header 4).stepCount ∧ (Step.strip 2500 100 2 1 false).lastCutInRange = False ∧
    (Step.strip 2600 100 2 1 false).lastCutInRange ∧ ([none] : List (Option Step))[0]? = some none := by
  refine ⟨rfl, ?_, ?_, rfl⟩
  · apply eq_false
    intro h
    have := h _ _ _ _ _ rfl
    omega
  · intro p q m c r h
    cases h
    decide

theorem witness_admit : ((lifting []).slotBody 0) = program ∧ (lifting []).lifts.length < 8 ∧
    8 ≤ (lifting (List.replicate 8 (lift 5 .waiting .none))).lifts.length ∧ (∃ l ∈ (lifting [lift 5 .waiting .none]).lifts, l.id = 5) ∧
    (up.slotBody 0).code ≠ 2 := by decide +kernel

theorem witness_lift_requests : (lifting [lift 5 .waiting .none]).lift? 5 = some (lift 5 .waiting .none) ∧
    (lift 5 .waiting .none).state = .waiting ∧ (lift 5 (.held .link) .jogger).state = .held .link ∧
    (lifting [lift 5 (.held .link) .jogger]).liftBusy 5 = false ∧
    (pendingOn (lifting [lift 5 (.held .link) .jogger]) 0 (.align 5 1)).liftBusy 5 = true ∧
    (lift 5 .working .jogger).state ∈ [LiftState.working, .ready, .passing, .clearing] ∧ (lift 5 (.held .link) .jogger).dest = none ∧
    { lift 5 (.held .handover) .jogger with dest := some .cutter }.source ≠ .cutter ∧ Position.outfeed ≠ .cutter ∧
    { up with lifts := [lift 5 .waiting .none] }.lifts.length = 1 := by decide +kernel

theorem witness_uncertain : let l := { lift 5 (.held .stopped) .cutter with uncertain := true, stepIndex := 1 }
    (lifting [l]).currentStep l = some (.cut 2500 1 false) ∧ l.uncertain = true ∧ l.dest = none := by decide +kernel

theorem witness_piles : up.piles.length < 3 ∧ 3 ≤ [feeding 1, feeding 1, feeding 1].length ∧ (feeding 1).id = 7 := by decide

/-- Chop Run: the step at hand, one passed and one to come. -/
theorem witness_chop : let l := { lift 5 .working .cutter with stepIndex := 0 }
    (lifting [l]).stepCountOf l = 4 ∧ (lifting [l]).stepsOf l = steps ∧ ((steps[0]?).map Step.kindCode) = some 2 ∧
    ((steps[1]?).map Step.kindCode) ≠ some 2 ∧ l.position = .cutter ∧ l.dest ≠ some .cutter ∧ l.stepIndex = 0 ∧
    0 < { l with stepIndex := 1 }.stepIndex ∧ (lift 5 .working .outfeed).position = .outfeed ∧
    (lift 5 .waiting .none).position = .none := by decide +kernel

theorem witness_fault_record : up.orders.firstFault = none ∧
    { up.orders with firstFault := some ⟨3, .gaugeHome, .jam, 7⟩ }.firstFault = some ⟨3, .gaugeHome, .jam, 7⟩ := by decide

theorem witness_pressure : [(1 : Byte), 2, 5] = [Hydraulic.turner, .lifter, .press].map (fun x => byte x.role.code) ∧
    List.Perm [Hydraulic.turner, .lifter, .press] [.press, .turner, .lifter] ∧ (0 : Byte).toNat ∉ [1, 2, 5] ∧
    32 < (33 : Byte).toNat ∧ 1 < (2 : Byte).toNat := by decide

theorem witness_refresh : let x := { up.sup with running := true, style := .window, elapsed := 160 }
    x.periodMs ≤ 2 * x.elapsed ∧ 2 * 159 < x.periodMs ∧ x.check = .plain ∧ 4095 + x.refreshCode.toNat = 4095 ∧
    { x with check := .rolling }.check = .rolling ∧ 0 + x.refreshCode.toNat ≠ 4095 ∧ (inMode .safe).sup.mode = .safe := by decide

theorem witness_challenge : { up.sup with challenge := some 5 }.challenge = some 5 ∧ 4090 + (5 : BitVec 12).toNat = 4095 ∧
    up.sup.challenge = none ∧ (∀ x, up.sup.challenge = some x → 0 + x.toNat ≠ 4095) ∧ (inMode .setup).sup.mode = .setup := by
  refine ⟨rfl, by decide, rfl, ?_, rfl⟩
  intro x h
  cases h

theorem witness_release : (inMode .safe).inputs.estop = false ∧ (inMode .safe).inputs.curtain = false ∧
    (∀ t : Fin 32, (inMode .safe).tags[t] = .free) ∧ (quarantinedOn (inMode .safe) 31 (.discharge 5)).tags[(31 : Fin 32)] ≠ .free := by
  decide +kernel

theorem witness_setup : (inMode .hold).sup.mode = .hold ∧ (¬ ∃ o, (inMode .hold).hasPending o) ∧
    (pendingOn (inMode .hold) 0 (.discharge 5)).hasPending (.discharge 5) :=
  ⟨rfl, quiet_has_none (up_quiet .hold), 0, by decide +kernel⟩

theorem witness_resume : (inMode .hold).east.state = .up ∧ (∀ r, (inMode .hold).roles.get r ≠ none) ∧
    { up with roles := { up.roles with outfeed := none } }.roles.get .outfeed = none ∧ Link.reset.state ≠ .up := by
  refine ⟨rfl, ?_, rfl, by decide⟩
  intro r
  cases r <;> decide

theorem witness_roles : (inMode .hold).roleInUse .outfeed = false ∧ (pendingOn up 0 (.discharge 5)).roleInUse .outfeed = true ∧
    (∀ q, q ≠ Role.outfeed → up.roles.get q ≠ some 62) ∧ up.roles.get .press = some 11 ∧ up.roles.roleOf 62 = none ∧
    up.roles.roleOf 13 = some .outfeed ∧ up.roles.roleOf 1 = some .cell ∧
    (pendingOn (inMode .hold) 0 (.discharge 5)).roleInUse .outfeed = true ∧ Role.outfeed ≠ .cell := by
  refine ⟨by decide +kernel, by decide +kernel, ?_, rfl, rfl, rfl, rfl, by decide +kernel, by decide⟩
  intro q _
  cases q <;> decide

theorem witness_port_settings : (1 ≤ 255 ∧ 255 ≤ 255) ∧ (10 ≤ 2550 ∧ 2550 ≤ 2550 ∧ 2550 % 10 = 0) ∧ (inMode .hold).sup.mode ≠ .run := by
  decide

theorem witness_notice_settings : up.notices.pending &&& (16 : BitVec 10) ≠ 0 ∧ up.notices.pending &&& (0 : BitVec 10) = 0 ∧
    (16 : BitVec 10) &&& 1023 &&& ~~~ (0 : BitVec 10) ≠ 0 ∧ 1023 < 1024 ∧ 512 ≤ 1023 ∧
    up.notices.pending &&& 1023 &&& ~~~ up.notices.mask = 0 ∧ { up.notices with due := false }.due = false := by decide

/-- The address of a role's station. -/
def station (r : Role) : Byte := byte ((up.roles.get r).getD 0)

/-- An order PENDING on tag 0, with a lift and a pile on the line. -/
def working (x : Lift) (q : Pile) (o : Order) : Coordinator := pendingOn { lifting [x] with piles := [q] } 0 o

/-- A report on any order PENDING on tag 0 is delivered and matches its record. -/
theorem witness_order_ends (x : Lift) (q : Pile) (o : Order) : let b := working x q o
    b.delivers .west 63 (station o.role) ∧ b.tags[(0 : Fin 32)] = .pending ⟨o, o.role.segment⟩ 100 ∧
    b.reports (station o.role) 0 (byte o.kind.code) 0 ⟨o, o.role.segment⟩ ∧ (b.lifts.map Lift.id).Nodup ∧
    (b.piles.map Pile.id).Nodup ∧ x ∈ b.lifts ∧ q ∈ b.piles := by
  have h : ∀ r : Role, addressOf (station r) ≠ Config.broadcast ∧ addressOf (station r) ≠ Config.ownAddress ∧
      up.roles.get r = some (addressOf (station r)) := by intro r; cases r <;> decide +kernel
  exact ⟨⟨rfl, rfl, (h _).1, (h _).2.1⟩, by simp [working, pendingOn, Coordinator.setTag], ⟨rfl, rfl, (h _).2.2⟩,
    List.nodup_singleton _, List.nodup_singleton _, List.mem_singleton_self _, List.mem_singleton_self _⟩

/-- The two reports of a handover, each as the first and as the second, and the Clears of a lift at CUTTER, elsewhere and between two positions. -/
theorem witness_handover_done : let x := { lift 5 .passing .jogger with dest := some .cutter, pair := some (.inFlight, .done) }
    let y := { lift 5 .clearing .jogger with dest := some .cutter, pair := some (.inFlight, .done) }
    let z := lift 5 .clearing .cutter
    x.state = .passing ∧ x.dest = some .cutter ∧ { x with pair := some (.done, .inFlight) }.pair = some (.done, .inFlight) ∧
    (y.setClear .jogger .done).pair = some (.done, .done) ∧ y.source.clearer = some .jogger ∧
    ({ y with pair := some (.inFlight, .notIssued) }.setClear .jogger .done).pair ≠ some (.done, .done) ∧
    (working z (feeding 1) (.clear 5 .rotator)).cutterLift = some z ∧ z.pair = none ∧
    (working y (feeding 1) (.clear 5 .jogger)).cutterLift ≠ some y := by decide +kernel

/-- The recovery orders, at their stages, and the lift at the CUTTER that they hold when they fail. -/
theorem witness_recovery_orders : let c := { up.cutter with recovery := .clamp }
    let l := lift 5 .working .cutter
    c.recovery = .clamp ∧ c.overtaken = false ∧ { c with overtaken := true }.overtaken = true ∧
    { c with recovery := .home }.recovery = .home ∧ { c with rotator := .unknown }.rotator = .unknown ∧
    (Order.clampUp none).isRecovery = true ∧ Order.gaugeHome.isRecovery = true ∧ (Order.clampUp (some 5)).isRecovery = false ∧
    (working l (feeding 1) .gaugeHome).workingAtCutter = some l ∧ (Order.knifeCut 5 true).toCutterUnit = true ∧
    (Order.discharge 5).toCutterUnit = false := by decide +kernel

/-- The piles whose orders end, and the FEEDING pile that is short. -/
theorem witness_piles_end : let m := fun u v => { feeding 1 with state := .moving, position := .turner, move := some (u, v) }
    (m .inFlight .inFlight).move = some (.inFlight, .inFlight) ∧ (m .inFlight .done).move = some (.inFlight, .done) ∧
    (m .ended .inFlight).move = some (.ended, .inFlight) ∧ Progress.ended ≠ .inFlight ∧ Progress.ended ≠ .done ∧
    (m .inFlight .inFlight).state = .moving ∧ (Order.acceptPile 7).pile = some (feeding 1).id ∧
    (Order.turnPile 7 true).pile = some (feeding 1).id ∧ (Order.clearPlatform 7).pile = some (feeding 1).id ∧
    { feeding 1 with state := .short }.state ∈ [PileState.empty, .short] ∧ (Order.takeLift 5 500).lift = some 5 ∧
    (working (lift 5 .working .lifter) (feeding 1) (.takeLift 5 500)).pileIn .feeding = some (feeding 1) := by decide +kernel

/-- A measurement within the range and the skew limit, at the ends of the range. -/
theorem witness_align_ready : let m : Measured := ⟨50, -500, 500, 200⟩
    (working (lift 5 .working .jogger) (feeding 1) (.align 5 1)).skewLimitOf (lift 5 .working .jogger) = 200 ∧
    (50 ≤ m.height ∧ m.height ≤ 1650 ∧ -500 ≤ m.dx ∧ m.dx ≤ 500 ∧ -500 ≤ m.dy ∧ m.dy ≤ 500 ∧ m.skew ≤ 500) ∧
    m = ⟨nat2 0 50, int2 0xFE 0x0C, int2 0x01 0xF4, nat2 0 200⟩ := by decide +kernel

/-- A broadcast the forward step drops, and MANUAL frames it answers ROUTE and FULL, with room for the ANSWER and without. -/
theorem witness_forward_drops : let b := { inMode .setup with east := Link.reset }
    (b.link Port.west.other).isUp = false ∧ b.portOf (addressOf 10) = some .east ∧
    { inMode .setup with routes := up.routes.set 10 .none }.portOf (addressOf 10) ≠ some .east ∧
    b.roles.get .gauge = some (addressOf 10) ∧ addressOf 10 ≠ 0 ∧
    16 ≤ { upLink with forward := List.replicate 16 ⟨haltFrame, .west⟩ }.forward.length ∧
    24 ≤ { upLink with own := List.replicate 24 ⟨haltFrame, false⟩ }.own.length ∧ b.west.own.length < 24 := by decide +kernel

/-- Single orders of every issuer are wanted, with what R103 asks besides: the station reached, the supply granted, a tag lent. -/
theorem witness_orders_wanted :
    let l := lift 5 .working .cutter
    let at1 := { up.cutter with stage := .cut, clamp := .down }
    let b := { lifting [{ l with stepIndex := 1 }] with cutter := at1, arbiter := { up.arbiter with grant := some (.press, .granted) } }
    let t := { lifting [lift 5 .waiting .none] with
      piles := [feeding 1], infeed := { up.infeed with lifterCall := true }, arbiter := { up.arbiter with grant := some (.lifter, .kept) } }
    ⟨.knifeCut 5 false, none⟩ ∈ b.wanted ∧ b.roles.get .press = some 11 ∧ b.portOf 11 = some .east ∧ b.busy .press = false ∧
    (Order.knifeCut 5 false).hydraulic = some .press ∧
    ⟨.takeLift 5 500, none⟩ ∈ { t with arbiter := { up.arbiter with grant := some (.lifter, .granted) } }.wanted ∧
    ⟨.clear 5 .jogger, none⟩ ∈ (lifting [lift 5 .clearing .jogger]).wanted ∧
    ⟨.turnPile 7 false, none⟩ ∈ { up with
      piles := [Pile.newlyDeclared 7 false 1], infeed := { up.infeed with turnerMark := true } }.wanted ∧
    ⟨.clearPlatform 7, none⟩ ∈ { up with piles := [{ feeding 1 with state := .empty, clear := some .notIssued }] }.wanted := by
  decide +kernel

/-- Pairs are wanted, of one segment and of two, and the mark lends their tags: 0 and then 1. -/
theorem witness_pairs_wanted :
    let b := { lifting [lift 5 .ready .lifter] with tracker := ⟨true, false, false⟩ }
    let c := { lifting [lift 5 .ready .jogger] with tracker := ⟨false, true, false⟩ }
    let d := { up with
      piles := [{ Pile.newlyDeclared 7 false 1 with state := .turned, position := .turner }]
      infeed := { up.infeed with turnerMark := true } }
    ⟨.pass 5 .lifter .jogger, some (.receive 5 .jogger .a0)⟩ ∈ b.wanted ∧
    ⟨.pass 5 .jogger .rotator, some (.receive 5 .rotator .a0)⟩ ∈ c.wanted ∧
    ⟨.presentPile 7, some (.acceptPile 7)⟩ ∈ d.wanted ∧
    b.reaches (.pass 5 .lifter .jogger) 3 ∧ b.reaches (.receive 5 .jogger .a0) 4 ∧ b.west.own.length < 23 ∧
    c.reaches (.pass 5 .jogger .rotator) 4 ∧ c.reaches (.receive 5 .rotator .a0) 12 ∧ Role.jogger.segment ≠ Role.rotator.segment ∧
    lends b.tags b.orders.mark 0 ∧
    lends (b.tags.set 0 (.pending ⟨.pass 5 .lifter .jogger, .west⟩ 20000)) 0 1 := by
  have h : ∀ v : Vector Tag 32, ∀ m : Nat, ∀ i : Fin 32, v[i] = .free → (i.val + 31 - m % 32) % 32 = 0 → lends v m i :=
    fun v m i h0 h1 => ⟨h0, fun k hk => by omega⟩
  refine ⟨by decide +kernel, by decide +kernel, by decide +kernel, ?_, ?_, by decide, ?_, ?_, by decide, h _ _ _ (by decide +kernel) (by decide),
    h _ _ _ (by decide +kernel) (by decide)⟩ <;> (unfold Coordinator.reaches; decide +kernel)

/-- The lifts that Lift Resume settles: between two positions, at its CUTTER, out of range, with an uncertain cut, and those it refuses. -/
theorem witness_resumes :
    let b := { lifting [lift 5 .waiting .none] with cutter := { up.cutter with recovery := .home } }
    let x := { lift 5 (.held .handover) .cutter with dest := some .outfeed }
    let y := { lift 5 (.held .handover) .jogger with dest := some .cutter }
    let z := lift 5 (.held .range) .cutter
    x.source = .cutter ∧ b.cutter.recovery ≠ .clear ∧ up.cutter.recovery = .clear ∧ y.source ≠ .cutter ∧
    (lifting [z]).currentStep z = some (.strip 90000 1000 3 2 true) ∧ z.dest = none ∧ z.uncertain = false ∧
    (lifting [z]).currentStep { z with stepIndex := 1 } = some (.cut 2500 1 false) ∧
    (lifting [z]).stepCountOf z ≤ { z with stepIndex := 4 }.stepIndex ∧ z.stepIndex < (lifting [z]).stepCountOf z ∧
    { z with uncertain := true }.uncertain = true ∧ (lift 5 (.held .pause) .cutter).state = .held .pause ∧
    (lifting [x]).lift? 5 = some x ∧ (lifting [x]).liftBusy 5 = false ∧ ((lifting [x]).lifts.map Lift.id).Nodup ∧
    (∀ c, (lift 5 .ready .jogger).state ≠ .held c) ∧ (∀ l ∈ (lifting [x]).lifts, l.id ≠ 254) ∧
    (inMode .setup).sup.mode ∈ [Mode.safe, .setup] ∧ up.sup.mode ∈ [Mode.run, .hold] := by
  refine ⟨by decide, by decide, by decide, by decide, by decide +kernel, rfl, rfl, by decide +kernel, by decide +kernel,
    by decide +kernel, rfl, rfl, by decide +kernel, by decide +kernel, by decide +kernel, ?_, by decide +kernel, by decide, by decide⟩
  intro c hc
  cases hc

/-- Intervals that run out in the next millisecond, those of two entries with one start event among them, and a hold-off with a due NOTICE. -/
theorem witness_expiries : let x : Spacing := { up.cutter.spacing with clampDown := some 29, knifeIssue := some 349 }
    x.startOf .s7s = some 349 ∧ 349 + 1 = up.timing[spacingNumber .s7s] ∧ x.startOf .s2 = some 29 ∧
    29 + 1 = up.timing[spacingNumber .s2] ∧ up.notices.due = true ∧ min ({ up.notices with since := 49 }.since + 1) 1001 = up.notices.holdOff := by
  decide +kernel

/-- A tick in which four times run out: the hold-off's row and the spacing rows come first, the Knife Cut's issue before the others. -/
theorem test_expiries_in_order : ∃ t, step ⟨{ up with
      cutter := { up.cutter with spacing := { up.cutter.spacing with clampDown := some 29, knifeIssue := some 349 } }
      notices := { up.notices with since := 49 }
      sup := { up.sup with running := true, elapsed := 20 * 2 ^ up.sup.period.val - 1 } }, []⟩ = .next t ∧
    t.pending = [.holdOffExpiry, .spacingExpiry .s7s, .spacingExpiry .s2, .watchdogExpiry] := by
  exact ⟨_, rfl, by decide +kernel⟩

/-- The lift at the CUTTER at its end of an event: a PAUSE step, cuts in range and out of it, a run with cuts remaining and without. -/
theorem witness_event_end_at_cutter : let l := lift 5 .working .cutter
    let b := lifting [l]
    (∀ o, b.hasPending o → o.ofCutter = false) ∧ (b.lifts.map Lift.id).Nodup ∧ b.sup.mode = .run ∧ b.workingAtCutter = some l ∧
    b.currentStep { l with stepIndex := 3 } = some .pause ∧ b.cutter.recovery = .clear ∧ b.cutter.stage = .none ∧
    b.currentStep { l with stepIndex := 1 } = some (.cut 2500 1 false) ∧ (2500 : Int) + l.cutOffset = 2500 ∧
    (2500 : Int) + { l with measured := some ⟨500, -1, 0, 0⟩ }.cutOffset = 2499 ∧
    b.currentStep l = some (.strip 90000 1000 3 2 true) ∧ l.runRemaining = 0 ∧ 1 ≤ { l with runRemaining := 2 }.runRemaining :=
  ⟨fun o h => absurd ⟨o, h⟩ (quiet_has_none (up_quiet .run)), by decide +kernel⟩

/-- A cut out of range of the one lift at the CUTTER, where the line meets its law. -/
theorem witness_out_of_range : let l := { lift 5 .working .cutter with stepIndex := 1, measured := some ⟨500, -1, 0, 0⟩ }
    let b := lifting [l]
    b.lineLaw ∧ b.workingAtCutter = some l ∧ b.currentStep l = some (.cut 2500 1 false) ∧ (2500 : Int) + l.cutOffset < 2500 := by
  intro l b
  have none_pending : ∀ o, ¬ b.hasPending o := fun o h => quiet_has_none (up_quiet .run) ⟨o, h⟩
  have quiet : ∀ t : Fin 32, b.tags[t].pendingOrder = none := up_quiet .run
  refine ⟨⟨?_, List.pairwise_singleton _ _, ?_, ?_, ?_⟩, by decide +kernel⟩
  · simp [b, l, lifting, lift, Lift.admitted]
  · exact fun o i h => absurd h (none_pending o)
  · intro t u o q _ ht
    rw [quiet t] at ht
    cases ht
  · exact fun o h => absurd h (none_pending o)

/-- The calls and the grants at the end of an event outside RUN: one of an order PENDING, one not yet used, one of no order PENDING. -/
theorem witness_event_end_outside_run : let b := { inMode .hold with infeed := { up.infeed with lifterCall := true, turnerCall := true } }
    b.sup.mode ≠ .run ∧ b.infeed.waiting .lifter = none ∧ b.roles.get .lifter = some 3 ∧ b.portOf 3 = some .west ∧
    b.roles.get .turner = some 2 ∧ b.portOf 2 = some .west ∧ (b.link .west).isUp = true ∧
    (pendingOn b 0 (.clampUp none)).pressurePending .press = true ∧ b.pressurePending .press = false ∧
    (some (Hydraulic.turner, Phase.granted) = some (Hydraulic.turner, Phase.granted)) := by decide +kernel

/-- The PRESS order of a cut has ended: below the cap, at it, and with the hold-over setting clear; PRESS_OK low. -/
theorem witness_hold_over : let l := lift 5 .working .cutter
    let b := { lifting [l] with
      cutter := { up.cutter with stage := .cut, clamp := .down, holdOver := 7 }
      arbiter := { up.arbiter with grant := some (.press, .busy) }
      inputs := ⟨false, false, false, false⟩ }
    b.useLaw ∧ b.sup.mode = .run ∧ b.pressurePending .press = false ∧ b.arbiter.holdOver = true ∧ b.inputs.curtain = false ∧
    b.cutter.recovery = .clear ∧ b.cutter.stage ∈ [CutStage.clamp, .cut, .release] ∧ b.workingAtCutter = some l ∧
    b.currentStep l ≠ some .pause ∧ b.cutter.holdOver < b.arbiter.cap ∧ b.arbiter.cap ≤ { b.cutter with holdOver := 8 }.holdOver ∧
    b.inputs.pressOk = false ∧ { b.arbiter with holdOver := false }.holdOver = false ∧ Hydraulic.turner ≠ .press :=
  ⟨⟨by decide +kernel, by decide +kernel, by decide +kernel⟩, by decide +kernel⟩

/-- The LIFTER holds the grant and its CALL fails its checks. -/
theorem witness_granted_call : let b := { up with
      infeed := { up.infeed with lifterCall := true }, arbiter := { up.arbiter with grant := some (.lifter, .granted) } }
    b.useLaw ∧ b.sup.mode = .run ∧ b.arbiter.grant = some (.lifter, .granted) ∧ b.infeed.lifterCall = true ∧
    b.callCheck = .error .noPile :=
  ⟨⟨by decide +kernel, by decide +kernel, by decide +kernel⟩, rfl, rfl, rfl, rfl⟩

/-- A grant decision with every flag set, and one that passes the PRESS over under the yield mark. -/
theorem witness_grant_decision : let a := { up.arbiter with flags := ⟨true, true, true⟩ }
    up.arbiter.grant = none ∧ up.inputs.pressOk = true ∧ a.priority = [] ++ Hydraulic.press :: [.turner, .lifter] ∧
    a.flags.get .press = true ∧ a.yield = false ∧ { a with yield := true }.yield = true ∧
    a.priority = [Hydraulic.press] ++ .turner :: [.lifter] ∧ a.flags.get .turner = true ∧
    up.arbiter.flags = ⟨false, false, false⟩ := by decide +kernel

/-- The slots of the line with some lifts meet their law. -/
theorem lifting_slotLaw (ls : List Lift) : (lifting ls).slotLaw := by
  intro n
  by_cases h : n = 0
  · subst h
    refine ⟨by decide, by decide, rfl, rfl, ?_⟩
    intro st hst
    simp only [steps, List.mem_cons, List.not_mem_nil, or_false] at hst
    rcases hst with rfl | rfl | rfl | rfl <;> (intro p q m c r h; cases h <;> decide)
  · have e : (lifting ls).slots[n] = ⟨.empty, 0⟩ := by
      have h0 : (0 : Nat) ≠ n.val := fun k => h (Fin.ext k.symm)
      simp [lifting, holding, up, Coordinator.resetWith, Vector.getElem_set_ne _ _ h0]
    rw [e]
    trivial

/-- Slots at the ends of the range of the step count, LOADING and READY. -/
theorem witness_slot_law : (SlotBody.loading (header 40) (List.replicate 40 none)).law ∧ (lifting []).slotLaw ∧
    (SlotBody.ready (header 1) (crc (stepRecord .pause)).toNat [.pause]).law ∧ SlotBody.empty.law := by
  refine ⟨⟨by decide, by decide, rfl⟩, lifting_slotLaw [], ⟨by decide, by decide, rfl, by simp, ?_⟩, trivial⟩
  intro st hst p q m c r h
  rw [List.mem_singleton] at hst
  rw [hst] at h
  cases h

/-- READY of the ROTATOR and Gauge Home at the end of a recovery, with cut stages to settle. -/
theorem witness_recovery_ends : let b := { lifting [lift 5 .working .cutter] with
      cutter := { up.cutter with recovery := .rotator, rotator := .unknown, stage := .release } }
    b.slotLaw ∧ b.cutter.recovery = .rotator ∧ b.busy .rotator = false ∧ (b.lifts.map Lift.id).Nodup ∧
    b.cutterLift = some (lift 5 .working .cutter) ∧
    { up.cutter with recovery := .home }.recovery = .home ∧ up.cutter.overtaken = false ∧ up.cutter.rotator = .ready ∧
    up.roles.roleOf (addressOf 12) = some .rotator ∧ up.cutter.recovery ≠ .rotator :=
  ⟨lifting_slotLaw _, by decide +kernel⟩

/-- Stations that cannot be reached: without a route, routed to the wrong segment, and behind a port that is not UP. -/
theorem witness_unreached : { up with routes := up.routes.set 3 .none }.portOf (addressOf 3) ≠ some .west ∧
    { up with routes := up.routes.set 2 .east }.portOf (addressOf 2) ≠ some .west ∧ { up with west := Link.reset }.west.state ≠ .up ∧
    { up with west := Link.reset }.delivers .east 63 3 ∧ up.portOf (addressOf 3) = some .west ∧ up.west.state = .up := by
  dsimp only [Coordinator.delivers]
  decide +kernel

/-- A CALL that a station without a route makes is settled: no call is outstanding, no flag is set and one free value is drawn (R178). -/
theorem test_unreached_call_is_settled : ∃ t, exec (.call .west 63 3)
      ⟨{ lifting [lift 5 .waiting .none] with piles := [feeding 2], routes := up.routes.set 3 .none }, []⟩ = .next t ∧
    t.blk.infeed.lifterCall = false ∧ t.blk.arbiter.flags = ⟨false, false, false⟩ ∧ t.blk.draws = up.draws + 1 :=
  ⟨_, rfl, by decide +kernel, by decide +kernel, by decide +kernel⟩

/-- A lift HELD whose order ends, and a recovery order that ends with no lift WORKING at the CUTTER. -/
theorem witness_held_and_recovery_faults :
    (lift 5 (.held .stopped) .cutter).state ∉ [LiftState.working, .passing, .clearing] ∧
    (lift 5 .passing .jogger).state ∈ [LiftState.working, .passing, .clearing] ∧
    (working (lift 5 .ready .jogger) (feeding 1) .gaugeHome).workingAtCutter = none ∧ Order.gaugeHome.isRecovery = true := by
  decide +kernel

/-- A report for another station and a broadcast one. -/
theorem witness_travels : up.link .west = upLink ∧ upLink.isUp = true ∧ addressOf 10 ≠ 0 ∧ addressOf 10 ≠ 63 ∧ addressOf 63 = 63 ∧
    addressOf 64 = 0 ∧ (List.replicate 45 (0 : Byte)).length ≤ 45 ∧ ∃ b, completes (.ready .west 63 2) ⟨up, []⟩ b :=
  ⟨rfl, rfl, by decide, by decide, by decide, by decide, by decide, _, rfl⟩

/-- Settings kept and given side by side, at the ends of their ranges, and the first ones outside. -/
theorem witness_keeps : up.arbiter.priority = [.press, .turner, .lifter] ∧ (255 : Byte) = 255 ∧ (32 : Byte) = byte 32 ∧
    (inMode .safe).sup.period.val = 4 ∧ (7 : Byte) = byte (7 : Fin 8).val ∧ 8 ∈ [1, 2, 4, 8] ∧
    up.east.stagedRate = .r12 ∧ up.east.staged = ⟨10, 500, 5, false⟩ ∧ (2 : Byte) = byte Rate.r50.code ∧
    1 < (2 : Byte).toNat ∧ 2 < (3 : Byte).toNat ∧ 255 < 256 ∧ 2551 % 10 ≠ 0 ∧ 2550 < 2560 ∧ 65535 < 65536 := by decide +kernel

/-- Port times and a period one millisecond before they run out, and before the limit of the window elapsed time. -/
theorem witness_port_times : let l := { Link.reset with bringUp := 499, window := 9, retryDelay := 1 }
    l.state = .down ∧ l.retryDelay ≤ 1 ∧ l.active.bringUpLimit ≤ l.bringUp + 1 ∧ l.active.alignWindow ≤ min (l.window + 1) 255 ∧
    l.active.lockWait ≤ min ({ l with window := 4 }.window + 1) 255 ∧ ¬ l.active.lockWait ≤ min ({ l with window := 3 }.window + 1) 255 ∧
    PortState.verify ∈ [PortState.align, .lock, .verify] ∧ min ({ l with window := 255 }.window + 1) 255 = 255 ∧
    20 * 2 ^ up.sup.period.val ≤ { up.sup with elapsed := 319 }.elapsed + 1 ∧
    ¬ 20 * 2 ^ up.sup.period.val ≤ { up.sup with elapsed := 318 }.elapsed + 1 := by decide +kernel

/-- A port is lost with a Knife Cut PENDING behind it and an Idle waiting for it. -/
theorem witness_lost_port : let b := { pendingOn (lifting [lift 5 .working .cutter]) 0 (.knifeCut 5 true) with
      infeed := { up.infeed with lifterIdle := some ⟨.noPile, .east, 3⟩ } }
    (b.link .east).state = .up ∧ b.tags[(0 : Fin 32)] = .pending ⟨.knifeCut 5 true, .east⟩ 100 ∧ (b.lifts.map Lift.id).Nodup ∧
    lift 5 .working .cutter ∈ b.lifts ∧ (Order.knifeCut 5 true).lift = some 5 ∧ (Order.knifeCut 5 true).kind = .knifeCut ∧
    (Order.knifeCut 5 true).toCutterUnit = true ∧ b.infeed.lifterIdle = some ⟨.noPile, .east, 3⟩ := by decide +kernel

/-- The arguments that name nothing: at the ends of their ranges. -/
theorem witness_reads_of_nothing : (3 ≤ 3 ∧ 3 < 256) ∧ (32 ≤ 32 ∧ 254 < 255) ∧ 255 ∈ [0, 255] := by decide

theorem witness_laws : up.safeLaw ∧ up.countLaw ∧ up.infeedLaw ∧ up.queueLaw ∧ up.knifeLaw := by
  refine ⟨by unfold Coordinator.safeLaw Coordinator.quiet; decide +kernel, by unfold Coordinator.countLaw; decide +kernel, ?_,
    by unfold Coordinator.queueLaw Link.bounded; decide +kernel, by unfold Coordinator.knifeLaw; decide +kernel⟩
  refine ⟨by decide +kernel, by decide +kernel, by simp [up, Coordinator.resetWith], by decide +kernel, by decide +kernel, ?_⟩
  intro o h
  exact absurd ⟨o, h⟩ (quiet_has_none (up_quiet .run))

/-- A lift WORKING at the CUTTER with its Knife Cut PENDING, one in a handover and one WAITING meet the law of the line. -/
theorem witness_line_law : let x := lift 5 .working .cutter
    let y := { lift 6 .passing .lifter with dest := some .jogger, pair := some (.inFlight, .inFlight) }
    let b := pendingOn (lifting [x, y, lift 7 .waiting .none]) 3 (.knifeCut 5 true)
    b.lineLaw ∧ b.useLaw ∧ b.stationLaw := by
  intro x y b
  have h : ∀ t : Fin 32, b.tags[t].pendingOrder = if t = 3 then some (.knifeCut 5 true) else none := by decide +kernel
  have one : ∀ {t : Fin 32} {o : Order}, b.tags[t].pendingOrder = some o → t = 3 ∧ o = .knifeCut 5 true := by
    intro t o ht
    rw [h] at ht
    split at ht <;> simp_all
  refine ⟨⟨?_, ?_, ?_, ?_, ?_⟩, ⟨by decide +kernel, by decide +kernel, by decide +kernel⟩, ?_⟩
  · simp [b, x, y, pendingOn, Coordinator.setTag, lifting, lift, Lift.admitted, Position.before]
  · have hold : ∀ l : Lift, ∀ p, p ≠ Position.none → (l.holds p ↔ p ∈ [l.position] ++ l.reservedEnd.toList) := by
      intro l p _
      simp [Lift.holds, eq_comm]
    have apart : ∀ l m : Lift, (∀ p ∈ [l.position] ++ l.reservedEnd.toList, p ≠ .none → p ∉ [m.position] ++ m.reservedEnd.toList) →
        ∀ p, p ≠ .none → l.holds p → ¬ m.holds p := by
      intro l m k p hp hl
      rw [hold m p hp]
      exact k p ((hold l p hp).1 hl) hp
    refine List.Pairwise.cons ?_ (List.Pairwise.cons ?_ (List.pairwise_singleton _ _))
    · intro m hm
      simp only [List.mem_cons, List.not_mem_nil, or_false] at hm
      rcases hm with rfl | rfl <;> exact ⟨by decide +kernel, apart _ _ (by decide +kernel)⟩
    · intro m hm
      rw [List.mem_singleton] at hm
      subst hm
      exact ⟨by decide +kernel, apart _ _ (by decide +kernel)⟩
  · rintro o i ⟨t, ht⟩ hi
    obtain ⟨-, rfl⟩ := one ht
    obtain rfl : 5 = i := by simpa [Order.lift] using hi
    exact ⟨x, List.mem_cons_self, rfl, rfl, rfl, Or.inl rfl⟩
  · intro t u o q htu ht hu
    exact absurd ((one ht).1.trans (one hu).1.symm) htu
  · rintro o ⟨t, ht⟩ _ _
    exact Or.inl rfl
  · intro t u o q ht hu _
    exact (one ht).1.trans (one hu).1.symm

theorem witness_lift_law : (lifting [lift 5 .working .outfeed]).useLaw := by
  refine ⟨by decide +kernel, by decide +kernel, ?_⟩
  decide +kernel

theorem witness_station_laws : let b := { pendingOn up 0 (.clampUp none) with arbiter := { up.arbiter with grant := some (.press, .busy) } }
    b.stationLaw ∧ b.pressureLaw := by
  have h : ∀ t : Fin 32, (pendingOn up 0 (.clampUp none)).tags[t].pendingOrder = if t = 0 then some (.clampUp none) else none := by
    decide +kernel
  refine ⟨?_, ?_⟩
  · intro t u o q ht hu _
    have ht : (pendingOn up 0 (.clampUp none)).tags[t].pendingOrder = some o := ht
    have hu : (pendingOn up 0 (.clampUp none)).tags[u].pendingOrder = some q := hu
    rw [h] at ht hu
    split at ht <;> split at hu <;> simp_all
  · intro t o k ht hk
    have ht : (pendingOn up 0 (.clampUp none)).tags[t].pendingOrder = some o := ht
    rw [h] at ht
    split at ht <;> simp_all
    subst ht
    simpa [Order.hydraulic] using hk

theorem witness_role_law : up.roleLaw := by
  have h : ∀ r, ∃ a, up.roles.get r = some a ∧ 1 ≤ a ∧ a ≤ 62 := by intro r; cases r <;> exact ⟨_, rfl, by decide, by decide⟩
  refine ⟨?_, ?_⟩
  · intro r a hr
    obtain ⟨b, hb, h1, h2⟩ := h r
    rw [hr] at hb
    cases hb
    exact ⟨h1, h2⟩
  · intro r q a hr hq
    cases r <;> cases q <;> first | rfl | (exfalso; revert hr hq; simp only [up, Coordinator.resetWith, RoleTable.get]; intro h1 h2; simp_all; omega)

end Sys2Proof.Tests
end

section
/-! The requests of the Program Store (R6, R7, R12) and the reset state of the store, the lifts and the piles (R18, R46, R68). First what the decoders and the slot operations answer on the fields of a request, then each request's outcomes, then the statements. -/

namespace Sys2Proof.Machine

/-! ### Fields of a request -/

theorem byte_inj {m n : Nat} (hm : m < 256) (hn : n < 256) : byte m = byte n ↔ m = n := by
  refine ⟨fun h => ?_, congrArg byte⟩
  rw [← byte_toNat hm, h, byte_toNat hn]

theorem Angle.ofDegrees_eq_some_iff {d : Nat} {a : Angle} : Angle.ofDegrees d = some a ↔ a.degrees = d := by
  constructor
  · intro h
    unfold Angle.ofDegrees at h
    split at h <;> cases h <;> rfl
  · rintro rfl
    cases a <;> rfl

theorem Angle.degrees_inj {a b : Angle} : a.degrees = b.degrees ↔ a = b := by
  cases a <;> cases b <;> decide

theorem Angle.degrees_eq_zero_iff {a : Angle} : a.degrees = 0 ↔ a = .a0 := degrees_inj (b := .a0)

theorem Angle.degrees_mem (a : Angle) : a.degrees ∈ [0, 90, 180, 270] := by
  cases a <;> decide

theorem flagOf_byte_eq_some_iff {r : Nat} (hr : r < 256) {b : Bool} :
    flagOf (byte r) = some b ↔ r = if b then 1 else 0 := by
  have h0 : byte r = 0 ↔ r = 0 := byte_inj hr (by decide)
  have h1 : byte r = 1 ↔ r = 1 := byte_inj hr (by decide)
  unfold flagOf
  simp only [h0, h1]
  cases b <;> split <;> simp_all

/-- The header a Program Open carries in its fields, each in its range (R3). -/
theorem headerOf_eq_some_iff {c o j k h : Nat} (hc : c < 256) (ho : o < 65536) (hj : j < 256) (hk : k < 65536)
    (hh : h < 65536) {x : Header} :
    headerOf (byte c :: (be2 o ++ [byte j] ++ be2 k ++ be2 h)) = some x ↔
      (1 ≤ c ∧ c ≤ 40 ∧ 1 ≤ j ∧ j ≤ 4 ∧ k ≤ 200 ∧ 50 ≤ h ∧ h ≤ 1650) ∧ ∃ a : Angle, a.degrees = o ∧ x = ⟨c, a, j, k, h⟩ := by
  simp only [be2, List.cons_append, List.nil_append, headerOf, byte_toNat hc, byte_toNat hj, nat2_be2 ho, nat2_be2 hk,
    nat2_be2 hh, Config.stepsPerProgram, ← Angle.ofDegrees_eq_some_iff]
  cases Angle.ofDegrees o with
  | none => simp
  | some a => simp [eq_comm]

/-- The step a Step Write carries in its fields, each present field in its range (R4, R7). -/
theorem stepOf_eq_some_iff {k p q m c r a : Nat} (hk : k < 256) (hp : p < 4294967296) (hq : q < 65536) (hm : m < 256)
    (hc : c < 256) (hr : r < 256) (ha : a < 65536) {st : Step} :
    stepOf (byte k :: (be4 p ++ be2 q ++ [byte m, byte c, byte r] ++ be2 a)) = some st ↔ st.writtenAs k p q m c r a := by
  have k1 : byte k = 1 ↔ k = 1 := byte_inj hk (by decide)
  have k2 : byte k = 2 ↔ k = 2 := byte_inj hk (by decide)
  have k3 : byte k = 3 ↔ k = 3 := byte_inj hk (by decide)
  have k4 : byte k = 4 ↔ k = 4 := byte_inj hk (by decide)
  simp only [be2, be4, List.cons_append, List.nil_append, stepOf, k1, k2, k3, k4, nat4_be4 hp, nat2_be2 hq, nat2_be2 ha,
    byte_toNat hm, byte_toNat hc, inGaugeRange, Config.gaugeMin, Config.gaugeMax, Step.writtenAs,
    ← flagOf_byte_eq_some_iff hr]
  by_cases h1 : k = 1
  · subst h1
    cases flagOf (byte r) with
    | none => cases st <;> simp
    | some rel =>
      cases st with
      | cut => grind
      | _ => simp
  by_cases h2 : k = 2
  · subst h2
    cases flagOf (byte r) with
    | none => cases st <;> simp
    | some rel =>
      cases st with
      | strip => grind
      | _ => simp
  by_cases h3 : k = 3
  · subst h3
    cases h : Angle.ofDegrees a with
    | none => cases st <;> simp [← Angle.ofDegrees_eq_some_iff, h]
    | some x =>
      obtain rfl := Angle.ofDegrees_eq_some_iff.1 h
      cases x <;> cases st <;> simp [Angle.degrees_inj, Angle.degrees_eq_zero_iff, @eq_comm Angle]
  by_cases h4 : k = 4
  · subst h4
    cases st <;> simp
  · cases st <;> simp [h1, h2, h3, h4]

/-! ### Slots a request names -/

theorem Coordinator.slot?_byte_eq_none {n : Nat} (hn : n < 256) (h : 15 < n) (s : Coordinator) : s.slot? (byte n) = none := by
  simp only [Coordinator.slot?, byte_toNat hn, Vector.getElem?_eq_none_iff]
  omega

theorem Coordinator.slot?_byte {n : Nat} (h : n ≤ 15) (s : Coordinator) :
    s.slot? (byte n) = some ⟨s.slotBody n, s.useOf n⟩ := by
  have hn : s.slots[n]? = some s.slots[n] := Vector.getElem?_eq_getElem (by omega)
  rw [Coordinator.slot?, byte_toNat (by omega), Coordinator.slotBody, Coordinator.useOf, hn]
  rfl

theorem Coordinator.setBody_byte {n : Nat} (hn : n < 256) (s : Coordinator) (x : SlotBody) :
    s.setBody (byte n) x = s.modSlot n fun y => { y with body := x } := by
  rw [Coordinator.setBody, byte_toNat hn]

theorem SlotBody.code_eq_one_iff {x : SlotBody} : x.code = 1 ↔ ∃ h steps, x = .loading h steps := by
  cases x <;> simp [SlotBody.code]

theorem SlotBody.code_eq_two_iff {x : SlotBody} : x.code = 2 ↔ ∃ h c steps, x = .ready h c steps := by
  cases x <;> simp [SlotBody.code]

/-! ### Carrying out a request -/

/-- A request of a kind after which nothing else follows is carried as its owner answers it, where the condition does not read the Agent's queue. -/
theorem carried_of_handle {c : Instr} {code : Nat} {args : List Byte} {cond : Coordinator → Prop}
    {effect : Coordinator → Coordinator} {r : Result} {data : Coordinator → List Byte} (hc : requestRow code = c)
    (hcode : code < 256) (ha : afterRequest (.ofCode code) = id) (hb : ∀ b rest, cond b → cond (b.behind rest))
    (hh : ∀ b, cond b → handle (.ofCode code) b args = (effect b, reply r (data b))) :
    carried c code args cond effect r data :=
  carried_of (fun s => hc ▸ requestRow_eq code s) (congrArg RequestKind.ofCode (byte_toNat hcode)) ha
    fun b h rest => hh _ (hb b rest h)

/-! ### Program Open (R6) -/

/-- A slot above 15, a header out of range and a wrong length are refused alike. -/
theorem programOpen_badArg {s : Coordinator} {n : Byte} {record : List Byte} (h : s.slot? n = none ∨ headerOf record = none) :
    programOpen s (n :: record) = (s, refuse .badArg) := by
  unfold programOpen
  split
  · next heq =>
    cases heq
    rcases h with h | h <;> simp [h]
  · rfl

theorem programOpen_of_header {s : Coordinator} {n : Byte} {record : List Byte} {x : Slot} {h : Header}
    (hx : s.slot? n = some x) (hh : headerOf record = some h) :
    programOpen s (n :: record) =
      if x.body.code = 2 ∧ 0 < x.useCount then (s, refuse .inUse)
      else (s.setBody n (.loading h (List.replicate h.stepCount none)), reply .ok [n, byte x.body.code]) := by
  unfold programOpen
  split
  · next heq =>
    cases heq
    simp [hx, hh]
  · next hne =>
    unfold headerOf at hh
    split at hh
    · exact absurd rfl (hne _ _ _ _ _ _ _ _ _)
    · cases hh

/-- Settles O29: the header decodes exactly where its fields are in range, and each answer of the owner is carried. -/
theorem programOpenStartsALoad : Obligations.ProgramOpenStartsALoad := by
  intro n c o j k h hn hc ho hj hk hh
  refine ⟨fun hbad => ?_, fun a ha hn' hc1 hc2 hj1 hj2 hk2 hh1 hh2 => ?_⟩
  · refine carried_of_handle rfl (by decide) rfl (fun _ _ h => h) fun b _ => ?_
    have hrefused : b.slot? (byte n) = none ∨ headerOf (byte c :: (be2 o ++ [byte j] ++ be2 k ++ be2 h)) = none := by
      by_cases hn' : n ≤ 15
      · refine .inr (Option.eq_none_iff_forall_ne_some.2 fun x hx => hbad ?_)
        obtain ⟨⟨hc1, hc2, hj1, hj2, hk2, hh1, hh2⟩, a, rfl, -⟩ := (headerOf_eq_some_iff hc ho hj hk hh).1 hx
        exact ⟨hn', hc1, hc2, a.degrees_mem, hj1, hj2, hk2, hh1, hh2⟩
      · exact .inl (b.slot?_byte_eq_none hn (by omega))
    exact programOpen_badArg hrefused
  · have hhead : headerOf (byte c :: (be2 o ++ [byte j] ++ be2 k ++ be2 h)) = some ⟨c, a, j, k, h⟩ :=
      (headerOf_eq_some_iff hc ho hj hk hh).2 ⟨⟨hc1, hc2, hj1, hj2, hk2, hh1, hh2⟩, a, ha, rfl⟩
    have hopen (b : Coordinator) := programOpen_of_header (b.slot?_byte hn') hhead
    constructor
    · refine carried_of_handle rfl (by decide) rfl (fun _ _ h => h) fun b hfree => ?_
      exact (hopen b).trans (by rw [if_neg hfree, b.setBody_byte hn])
    · exact carried_of_handle rfl (by decide) rfl (fun _ _ h => h) fun b huse => (hopen b).trans (if_pos huse)

/-! ### Step Write (R7) -/

/-- Step Write of a record of 12 bytes to a slot above 15. -/
theorem stepWrite_no_slot {s : Coordinator} {n i : Byte} {record : List Byte} (hr : record.length = 12)
    (hs : s.slot? n = none) : stepWrite s (n :: i :: record) = (s, refuse .badArg) := by
  simp [stepWrite, hr, hs]

/-- Step Write to a slot that is not LOADING. -/
theorem stepWrite_not_loading {s : Coordinator} {n i : Byte} {record : List Byte} {x : Slot} (hr : record.length = 12)
    (hs : s.slot? n = some x) (hx : x.body.code ≠ 1) : stepWrite s (n :: i :: record) = (s, refuse .badState) := by
  rcases x with ⟨body, uses⟩
  cases body with
  | loading h steps => exact absurd rfl hx
  | empty => simp [stepWrite, hr, hs]
  | ready h c steps => simp [stepWrite, hr, hs]

/-- Step Write to a LOADING slot at an index not below the step count. -/
theorem stepWrite_index_out {s : Coordinator} {n i : Byte} {record : List Byte} {h : Header} {steps : List (Option Step)}
    {u : Nat} (hr : record.length = 12) (hs : s.slot? n = some ⟨.loading h steps, u⟩) (hi : h.stepCount ≤ i.toNat) :
    stepWrite s (n :: i :: record) = (s, refuse .badArg) := by
  simp [stepWrite, hr, hs, hi]

/-- Step Write to a LOADING slot of a record that carries no step. -/
theorem stepWrite_bad_record {s : Coordinator} {n i : Byte} {record : List Byte} {h : Header} {steps : List (Option Step)}
    {u : Nat} (hr : record.length = 12) (hs : s.slot? n = some ⟨.loading h steps, u⟩) (hst : stepOf record = none) :
    stepWrite s (n :: i :: record) = (s, refuse .badArg) := by
  simp [stepWrite, hr, hs, hst]

theorem stepWrite_stores {s : Coordinator} {n i : Byte} {record : List Byte} {h : Header} {steps : List (Option Step)}
    {u : Nat} {st : Step} (hr : record.length = 12) (hs : s.slot? n = some ⟨.loading h steps, u⟩)
    (hi : i.toNat < h.stepCount) (hst : stepOf record = some st) :
    stepWrite s (n :: i :: record) = (s.setBody n (.loading h (steps.set i.toNat (some st))),
      reply .ok [n, i, byte (written (steps.set i.toNat (some st)))]) := by
  simp [stepWrite, hr, hs, hst, Nat.not_le.2 hi]

/-- Settles O30: one case of the owner's rule for each check of R7, in their order, and the accepted write. -/
theorem stepWriteChecksInOrder : Obligations.StepWriteChecksInOrder := by
  intro n i k p q m c r a hn hi hk hp hq hm hc hr ha args
  have hlen : (byte k :: (be4 p ++ be2 q ++ [byte m, byte c, byte r] ++ be2 a)).length = 12 := rfl
  have hstep {st : Step} := stepOf_eq_some_iff hk hp hq hm hc hr ha (st := st)
  have hload {h : Header} {steps : List (Option Step)} (hn : n ≤ 15) {b : Coordinator} (hb : b.slotBody n = .loading h steps) :
      b.slot? (byte n) = some ⟨.loading h steps, b.useOf n⟩ := hb ▸ b.slot?_byte hn
  refine ⟨fun hn' => ?_, fun hn' => ?_, fun h steps hn' hout => ?_, fun h steps hn' _ hno => ?_, fun h steps st hn' hin hst => ?_⟩ <;>
    refine carried_of_handle rfl (by decide) rfl (fun _ _ h => h) fun b hb => ?_
  · exact stepWrite_no_slot hlen (b.slot?_byte_eq_none hn hn')
  · exact stepWrite_not_loading hlen (b.slot?_byte hn') hb
  · exact stepWrite_index_out hlen (hload hn' hb) (by rwa [byte_toNat hi])
  · exact stepWrite_bad_record hlen (hload hn' hb)
      (Option.eq_none_iff_forall_ne_some.2 fun st hst => hno ⟨st, hstep.1 hst⟩)
  · refine (stepWrite_stores hlen (hload hn' hb) (by rwa [byte_toNat hi]) (hstep.2 hst)).trans ?_
    rw [byte_toNat hi, b.setBody_byte hn]
    rfl

/-! ### Program Erase (R12) -/

theorem programErase_no_slot {s : Coordinator} {n : Byte} (hs : s.slot? n = none) :
    programErase s [n] = (s, refuse .badArg) := by
  simp [programErase, hs]

theorem programErase_empty {s : Coordinator} {n : Byte} {u : Nat} (hs : s.slot? n = some ⟨.empty, u⟩) :
    programErase s [n] = (s, refuse .notFound) := by
  simp [programErase, hs]

theorem programErase_loading {s : Coordinator} {n : Byte} {x : Slot} (hs : s.slot? n = some x) (hx : x.body.code = 1) :
    programErase s [n] = (s.setBody n .empty, reply .ok [1]) := by
  rcases x with ⟨body, u⟩
  obtain ⟨h, steps, rfl⟩ := SlotBody.code_eq_one_iff.1 hx
  simp [programErase, hs]

theorem programErase_ready {s : Coordinator} {n : Byte} {x : Slot} (hs : s.slot? n = some x) (hx : x.body.code = 2) :
    programErase s [n] = if 0 < x.useCount then (s, refuse .inUse) else (s.setBody n .empty, reply .ok [2]) := by
  rcases x with ⟨body, u⟩
  obtain ⟨h, c, steps, rfl⟩ := SlotBody.code_eq_two_iff.1 hx
  simp [programErase, hs]

/-- Settles O32, by the state of the slot and its use count. -/
theorem programEraseEmptiesTheSlot : Obligations.ProgramEraseEmptiesTheSlot := by
  intro n hn
  refine ⟨fun hn' => ?_, fun hn' => ⟨?_, ?_, ?_, ?_⟩⟩ <;>
    refine carried_of_handle rfl (by decide) rfl (fun _ _ h => h) fun b hb => ?_
  · exact programErase_no_slot (b.slot?_byte_eq_none hn hn')
  · exact programErase_empty (hb ▸ b.slot?_byte hn')
  · exact b.setBody_byte hn .empty ▸ programErase_loading (b.slot?_byte hn') hb
  · obtain ⟨hready, hfree⟩ := hb
    refine (programErase_ready (b.slot?_byte hn') hready).trans ?_
    rw [if_neg (Nat.not_lt.2 hfree.le), b.setBody_byte hn]
  · obtain ⟨hready, huse⟩ := hb
    exact (programErase_ready (b.slot?_byte hn') hready).trans (if_pos huse)

/-! ### Reset (R18, R46, R68) -/

/-- Both resets take every block to its reset state, with the input lines as they stand. -/
theorem exec_reset (s : State) : ∀ c ∈ [Instr.powerOn, Instr.rstnPulse],
    exec c s = .next { s with blk := Coordinator.resetWith s.blk.inputs s.blk.draws } := by
  intro c hc
  simp only [List.mem_cons, List.not_mem_nil, or_false] at hc
  rcases hc with rfl | rfl <;> rfl

theorem Coordinator.posEntry_of_no_lifts {s : Coordinator} (h : s.lifts = []) (p : Position) : s.posEntry p = .free := by
  simp [Coordinator.posEntry, h]

@[simp] theorem Coordinator.resetWith_slot (inputs : Inputs) (draws : Nat) (n : Fin 16) :
    (Coordinator.resetWith inputs draws).slots[n] = ⟨.empty, 0⟩ := by
  simp [Coordinator.resetWith]

/-- Settles O4: both commands answer the reset state, whose fields are read off; the position table is FREE as no lift is live. -/
theorem resetEmptiesStoreLiftsAndPiles : Obligations.ResetEmptiesStoreLiftsAndPiles := by
  intro s c hc
  refine ⟨_, exec_reset s c hc, Coordinator.resetWith_slot _ _, rfl, Coordinator.posEntry_of_no_lifts rfl, ?_⟩
  exact ⟨rfl, rfl, rfl, rfl, rfl, rfl, rfl⟩

end Sys2Proof.Machine
end

section
/-! Lift Admit (R27). First when its id and height fit and when an id is in use, then the request's outcomes in the order of its checks, then the statement. -/

namespace Sys2Proof.Machine

/-! ### The arguments of an admission -/

theorem idFits_byte {i : Nat} (hi : i < 256) : idFits (byte i) = true ↔ i ≠ 0 ∧ i ≠ 255 := by
  have h0 : byte i = 0 ↔ i = 0 := byte_inj hi (by decide)
  have h255 : byte i = 255 ↔ i = 255 := byte_inj hi (by decide)
  simp only [idFits, Bool.and_eq_true, bne_iff_ne, ne_eq, h0, h255]

theorem heightFits_iff {h : Nat} : heightFits h = true ↔ h = 0 ∨ (50 ≤ h ∧ h ≤ 1650) := by
  simp [heightFits]

theorem Coordinator.lift?_isSome_iff {s : Coordinator} {i : Nat} : (s.lift? i).isSome = true ↔ ∃ l ∈ s.lifts, l.id = i := by
  simp [Coordinator.lift?]

/-! ### Outcomes of Lift Admit -/

/-- A slot above 15, an id and a height that do not fit are refused alike, whatever the slot holds. -/
theorem liftAdmit_badArg {s : Coordinator} {i n h1 h0 : Byte}
    (h : s.slot? n = none ∨ ¬ (idFits i = true ∧ heightFits (nat2 h1 h0) = true)) :
    liftAdmit s [i, n, h1, h0] = (s, refuse .badArg) := by
  cases hs : s.slot? n with
  | none => simp [liftAdmit, hs]
  | some x =>
    have hbad : idFits i = true → heightFits (nat2 h1 h0) = false := by simpa [hs] using h
    by_cases hi : idFits i = true
    · simp [liftAdmit, hs, hbad hi]
    · simp [liftAdmit, hs, hi]

section
variable {s : Coordinator} {i n h1 h0 : Byte} (hi : idFits i = true) (hh : heightFits (nat2 h1 h0) = true)
include hi hh

/-- Lift Admit on a slot that is not READY. -/
theorem liftAdmit_not_ready {x : Slot} (hs : s.slot? n = some x) (hx : x.body.code ≠ 2) :
    liftAdmit s [i, n, h1, h0] = (s, refuse .badState) := by
  rcases x with ⟨body, u⟩
  cases body with
  | ready h c steps => exact absurd rfl hx
  | empty => simp [liftAdmit, hs, hi, hh]
  | loading h steps => simp [liftAdmit, hs, hi, hh]

/-- Lift Admit on a READY slot: the id is checked before the room, and an admission takes both. -/
theorem liftAdmit_ready {hd : Header} {c : Nat} {ss : List Step} {u : Nat} (hs : s.slot? n = some ⟨.ready hd c ss, u⟩) :
    liftAdmit s [i, n, h1, h0] =
      if ∃ l ∈ s.lifts, l.id = i.toNat then (s, refuse .inUse)
      else if 8 ≤ s.lifts.length then (s, refuse .noRoom)
      else
        let height := if nat2 h1 h0 = 0 then hd.defaultHeight else nat2 h1 h0
        ({ s.modSlot n.toNat fun x => { x with useCount := x.useCount + 1 } with
            lifts := s.lifts ++ [Lift.admitted i.toNat n.toNat height] },
          reply .ok (i :: (be2 height ++ [byte (s.lifts.length + 1)]))) := by
  simp [liftAdmit, hs, hi, hh, Config.liftRecords, Coordinator.lift?_isSome_iff]

end

/-- Settles O34: the arguments fit exactly where the statement has them in range; past them the slot's body, then the id, then the room decide. -/
theorem liftAdmitAddsALift : Obligations.LiftAdmitAddsALift := by
  intro i n h hi hn hh
  have hheight : nat2 (byte (h / 256)) (byte h) = h := nat2_be2 hh
  refine ⟨fun hbad => ?_, fun hi0 hi255 hn' hrange => ?_⟩
  · refine carried_of_handle rfl (by decide) rfl (fun _ _ h => h) fun b _ => liftAdmit_badArg ?_
    by_cases hn' : n ≤ 15
    · rw [idFits_byte hi, hheight, heightFits_iff]
      exact .inr fun ⟨⟨hi0, hi255⟩, hrange⟩ => hbad ⟨hi0, hi255, hn', hrange⟩
    · exact .inl (b.slot?_byte_eq_none hn (by omega))
  · have hid : idFits (byte i) = true := (idFits_byte hi).2 ⟨hi0, hi255⟩
    have hfits : heightFits (nat2 (byte (h / 256)) (byte h)) = true := hheight.symm ▸ heightFits_iff.2 hrange
    have hready {b : Coordinator} {hd : Header} {c : Nat} {ss : List Step} (hb : b.slotBody n = .ready hd c ss) :=
      liftAdmit_ready hid hfits (hb ▸ b.slot?_byte hn')
    simp only [byte_toNat hi, byte_toNat hn, hheight] at hready
    refine ⟨?_, ?_, ?_, fun hd c ss => ?_⟩ <;>
      refine carried_of_handle rfl (by decide) rfl (fun _ _ h => h) fun b hb => ?_
    · exact liftAdmit_not_ready hid hfits (b.slot?_byte hn') hb
    · obtain ⟨hcode, hused⟩ := hb
      obtain ⟨hd, c, ss, hbody⟩ := SlotBody.code_eq_two_iff.1 hcode
      exact (hready hbody).trans (if_pos hused)
    · obtain ⟨hcode, hnew, hfull⟩ := hb
      obtain ⟨hd, c, ss, hbody⟩ := SlotBody.code_eq_two_iff.1 hcode
      have hunused : ¬ ∃ l ∈ b.lifts, l.id = i := fun ⟨l, hl, heq⟩ => hnew l hl heq
      exact (hready hbody).trans ((if_neg hunused).trans (if_pos hfull))
    · obtain ⟨hbody, hnew, hroom⟩ := hb
      have hunused : ¬ ∃ l ∈ b.lifts, l.id = i := fun ⟨l, hl, heq⟩ => hnew l hl heq
      exact (hready hbody).trans ((if_neg hunused).trans (if_neg (Nat.not_le.2 hroom)))

end Sys2Proof.Machine
end

section
/-! Read Challenge (R160). First that a drawn code differs from the one before it, then what the request answers, then the statement. -/

namespace Sys2Proof.Machine

/-! ### Drawing a code -/

/-- The step from the old code is 1 to 4,095, short of a full turn of the 4,096 codes, so no choice leads back to it. -/
theorem newCode_ne (old choice : BitVec 12) : newCode old choice ≠ old := by
  intro h
  have hstep : choice.toNat % 4095 < 4095 := Nat.mod_lt _ (by decide)
  have hturn : (old.toNat + 1 + choice.toNat % 4095) % 4096 = old.toNat := by
    simpa [newCode] using congrArg BitVec.toNat h
  omega

/-- Where there is no old code every draw is a new one. -/
theorem drawFrom_ne_last (old : Option (BitVec 12)) (choice : BitVec 12) : old ≠ some (drawFrom old choice) := by
  cases old with
  | none => exact (Option.some_ne_none _).symm
  | some x => exact fun h => newCode_ne x choice (Option.some.inj h).symm

/-! ### The request -/

/-- The challenge the part draws next; which one it is stays open (log 5). -/
def Coordinator.nextChallenge (b : Coordinator) : BitVec 12 :=
  drawFrom b.sup.lastChallenge (Config.challengeDraw b.draws)

theorem Coordinator.nextChallenge_ne_last (b : Coordinator) : b.sup.lastChallenge ≠ some b.nextChallenge :=
  drawFrom_ne_last _ _

/-- The part with its next challenge drawn and stored. -/
def Coordinator.drawChallenge (b : Coordinator) : Coordinator :=
  { b with
    sup := { b.sup with challenge := some b.nextChallenge, lastChallenge := some b.nextChallenge }
    draws := b.draws + 1 }

/-- Read Challenge draws and answers in every mode: it reads no state but the last challenge and the draw counter. -/
theorem readChallenge_nil (b : Coordinator) :
    readChallenge b [] = (b.drawChallenge, reply .ok (be2 b.nextChallenge.toNat)) := rfl

/-- The row of Read Challenge is carried without a condition. -/
theorem readChallenge_carried :
    carried .readChallenge 22 [] (fun _ => True) Coordinator.drawChallenge .ok (fun b => be2 b.nextChallenge.toNat) :=
  carried_of_handle rfl (by decide) rfl (fun _ _ h => h) fun b _ => readChallenge_nil b

/-- Settles O44: the challenge is the one drawn next, which differs from the last, and the row is carried without a condition. -/
theorem readChallengeDrawsANewOne : Obligations.ReadChallengeDrawsANewOne := by
  intro s number src rest hasks
  refine ⟨s.blk.nextChallenge, s.blk.draws + 1, s.blk.nextChallenge_ne_last, ?_, ?_⟩
  · exact Nat.le_of_lt_succ s.blk.nextChallenge.isLt
  · exact readChallenge_carried s number src rest hasks trivial

end Sys2Proof.Machine
end
